-- ==== Sys2Proof/Word.lean ====
section
/-! DEFINITION. The words the part carries: bytes of frames and speech samples, the 16-bit values of the line bus and of
the multiframe count, the 24-bit words of the scrambler. -/

namespace Sys2Proof

/-- One byte of a control-link frame, or one companded speech sample (00_scope, section 6 "Speech"). -/
abbrev Byte := BitVec 8

/-- A 16-bit value: a line module item (R37), the multiframe count M (R113), a block index (R129). -/
abbrev Word16 := BitVec 16

/-- A 24-bit number: a call's seed, a variant seed and the generator's state (R130, R131). -/
abbrev Word24 := BitVec 24

/-- The 256 samples of one frame of a highway, slot 0 first (R112). -/
abbrev Samples := Vector Byte 256

end Sys2Proof
end

