-- ==== Sys2Proof/Config.lean ====
section
/-! DEFINITION. The fixed figures of the part, each from the rule of spec/ named beside it. The spec leaves no figure to an
implementation and no result of a command open, so there is no free value here. -/

namespace Sys2Proof.Config

/-- R141: the request queue holds at most 12 entries. -/
def queueSize : Nat := 12

/-- R139: the outstanding count below which a frame of a side is taken. -/
def sideShare : Nat := 8

/-- R8: a member list holds at most 16 entries. -/
def maxMembers : Nat := 16

/-- R9: an entry belongs to at most 4 groups. -/
def maxGroups : Nat := 4

/-- R10: the largest directory number. -/
def maxNumber : Nat := 9999

/-- R26: the largest identity an entry can hold. -/
def maxIdentity : Nat := 16777215

/-- R38: a loop reading above this is taken as this. -/
def maxReading : Nat := 4095

/-- R59: a coarse reading counts in steps of eight loop units. -/
def coarseStep : Nat := 8

/-- R60: a fine reading at or above this switches the range to COARSE. -/
def fineUp : Nat := 3840

/-- R60: a coarse reading below this switches the range to FINE. -/
def coarseDown : Nat := 448

/-- R62: the visits a ring trip needs, whatever the debounce setting. -/
def ringTripVisits : Nat := 2

/-- R63: the pending-count stops here. -/
def maxPending : Nat := 8

/-- R66: the over-current run that puts a port in FAULT. -/
def overCurrentVisits : Nat := 2

/-- R71: the leakage run that sets the leakage flag. -/
def leakageVisits : Nat := 16

/-- R40: the no-reply count at which a module becomes ABSENT. -/
def noReplyLimit : Nat := 3

/-- R72: the gain code while the gain index is absent. -/
def absentGainCode : Nat := 32

/-- R73, R38: the largest gain code. -/
def maxGainCode : Nat := 63

/-- R77: a cycle count of 255 rings continuously. -/
def endlessCycles : Nat := 255

/-- R113: the jump count stops here. -/
def maxJumps : Nat := 255

/-- R135: the samples of one block. -/
def blockLength : Nat := 64

end Sys2Proof.Config
end

