-- ==== Sys2Proof/Syntax.lean ====
section
/-! DEFINITION. What may be asked of the part and what may happen to it: the request frame and the operands its bytes
spell (R161), and the ONE inductive of commands, one constructor for each row of spec/opcode_table.json. -/

namespace Sys2Proof

/-- The two call processors (00_scope, section 5 "side A, side B"). -/
inductive Side where
  | a
  | b
  deriving DecidableEq, Repr

/-- The other side of the duplex exchange. -/
def Side.other : Side → Side
  | .a => .b
  | .b => .a

/-- A directory entry, 0..511 (R1). -/
abbrev EntryIx := Fin 512
/-- A line port, 0..255 (00_scope, section 6 "Indices"). -/
abbrev PortIx := Fin 256
/-- A group, 0..31 (R8). -/
abbrev GroupIx := Fin 32
/-- A call record, 0..127 (R94). -/
abbrev CallIx := Fin 128
/-- A network slot a leg may use, 0..254: slot 255 is never driven (R96, R98). -/
abbrev SlotIx := Fin 255
/-- A line bus, 0..3 (R37). -/
abbrev BusIx := Fin 4
/-- A line module within its bus, 0..15 (R37). -/
abbrev ModuleIx := Fin 16
/-- A line within its module, 0..3 (R38). -/
abbrev LineIx := Fin 4
/-- An addressable item of a line module, 0..31 (R37). -/
abbrev ItemIx := Fin 32
/-- A cadence table entry, 0..3 (R77). -/
abbrev CadenceIx := Fin 4
/-- A scramble context, 0..191 (R124). -/
abbrev ContextIx := Fin 192
/-- A frame's place in its block, 0..63 (R112). -/
abbrev BlockPos := Fin 64

/-- A 16-byte request frame: tag, request code, flags and the operand bytes 3..15 (R138, R161). -/
structure Frame where
  tag : Byte
  code : Byte
  flags : Byte
  b3 : Byte
  b4 : Byte
  b5 : Byte
  b6 : Byte
  b7 : Byte
  b8 : Byte
  b9 : Byte
  b10 : Byte
  b11 : Byte
  b12 : Byte
  b13 : Byte
  b14 : Byte
  b15 : Byte
  deriving DecidableEq, Repr

/-- How an entry's calls are to be scrambled (R4). -/
inductive ScrambleClass where
  | never
  | allowed
  | always
  deriving DecidableEq, Repr

/-- The class of an entry: its call classes and its scramble class together (R4, 01 section 1.1). -/
structure ClassSet where
  directed : Bool
  group : Bool
  trunk : Bool
  scramble : ScrambleClass
  deriving DecidableEq, Repr

/-- A call's scramble mode (06 section 6.3). -/
inductive Mode where
  | off
  | preferred
  | required
  deriving DecidableEq, Repr

/-- Whether the members of a group ring together or in turn (R8). -/
inductive Policy where
  | all
  | sequential
  deriving DecidableEq, Repr

/-- The role of a leg (R96). -/
inductive Role where
  | calling
  | called
  deriving DecidableEq, Repr

/-- What an offer is made to (R81). -/
inductive Target where
  | entry (e : EntryIx)
  | group (g : GroupIx)
  deriving DecidableEq, Repr

/-- The fault modes (R70). -/
inductive FaultMode where
  | retest
  | latched
  deriving DecidableEq, Repr

/-! ## The operands of the requests (R161) -/

/-- ENTER (R11). -/
structure EnterArgs where
  entry : EntryIx
  identity : Nat
  number : Nat
  classes : ClassSet
  home : Option PortIx
  groups : List GroupIx
  deriving DecidableEq, Repr

/-- What AMEND does to the home port (R12). -/
inductive HomeChange where
  | keep
  | set (p : PortIx)
  | clear
  deriving DecidableEq, Repr

/-- AMEND (R12): an absent operand is left as it is. -/
structure AmendArgs where
  entry : EntryIx
  classes : Option ClassSet
  home : HomeChange
  number : Option Nat
  deriving DecidableEq, Repr

/-- LOOKUP (R16): the kind of key and the key. -/
inductive LookupKey where
  | identity (n : Nat)
  | number (n : Nat)
  deriving DecidableEq, Repr

/-- The four forms of SET GROUP (R18), each with the entries given. SETTINGS leaves the members as they are, and its entries are
there for the checks. -/
inductive GroupForm where
  | settings (policy : Policy) (cadence : CadenceIx) (stepTime : Byte) (entries : List EntryIx)
  | replace (entries : List EntryIx)
  | append (entries : List EntryIx)
  | drop (entries : List EntryIx)
  deriving DecidableEq, Repr

/-- SET GROUP (R18). -/
structure SetGroupArgs where
  group : GroupIx
  form : GroupForm
  deriving DecidableEq, Repr

/-- READ GROUP (R19). -/
structure ReadGroupArgs where
  group : GroupIx
  part : Fin 4
  deriving DecidableEq, Repr

/-- The calling party of an OFFER that is an entry: the entry and its leg's two network slots (R82). -/
structure CallingParty where
  entry : EntryIx
  send : SlotIx
  recv : SlotIx
  deriving DecidableEq, Repr

/-- OFFER (R82): no calling party is TRUNK; no anchor is "auto". -/
structure OfferArgs where
  calling : Option CallingParty
  target : Target
  calledSend : SlotIx
  calledRecv : SlotIx
  seed : Word24
  anchor : Option Word16
  mode : Mode
  cadence : Option CadenceIx
  expiry : Option Byte
  deriving DecidableEq, Repr

/-- CONNECT TRUNK (R102): no anchor is "auto". -/
structure TrunkArgs where
  entry : EntryIx
  role : Role
  send : SlotIx
  recv : SlotIx
  seed : Word24
  anchor : Option Word16
  mode : Mode
  deriving DecidableEq, Repr

/-- A call named by number and generation (R95): CONFIRM. -/
structure CallRef where
  call : CallIx
  generation : Byte
  deriving DecidableEq, Repr

/-- SCRAMBLE (R104). -/
structure ScrambleArgs where
  ref : CallRef
  mode : Mode
  deriving DecidableEq, Repr

/-- RELEASE (R109): the reason is HIGHWAY or REQUEST. -/
structure ReleaseArgs where
  ref : CallRef
  highway : Bool
  deriving DecidableEq, Repr

/-- READ CALL (R105). -/
structure ReadCallArgs where
  call : CallIx
  part : Fin 12
  deriving DecidableEq, Repr

/-- LINE ACCESS (R51): a value is a WRITE of it, none is a READ. -/
structure LineArgs where
  bus : BusIx
  modul : ModuleIx
  item : ItemIx
  write : Option Word16
  deriving DecidableEq, Repr

/-- SET CADENCE (R77). -/
structure CadenceArgs where
  entry : CadenceIx
  onTime : Word16
  offTime : Word16
  cycles : Byte
  deriving DecidableEq, Repr

/-- SET SUPERVISION (R74). -/
structure SupervisionArgs where
  offt : Word16
  ont : Word16
  rtt : Word16
  oct : Word16
  leakt : Word16
  debounce : Byte
  deriving DecidableEq, Repr

/-- SET FAULT MODE (R70). -/
structure FaultModeArgs where
  mode : FaultMode
  interval : Word16
  deriving DecidableEq, Repr

/-- SET GAIN (R73). -/
structure GainArgs where
  base : Word16
  step : Word16
  deriving DecidableEq, Repr

/-- SET GAIN TABLE (R73): which half, and its eight codes. -/
structure GainTableArgs where
  upper : Bool
  codes : List Byte
  deriving DecidableEq, Repr

/-! ## The commands -/

/-- The commands of the part, one constructor for each row of spec/opcode_table.json. A request row is the ISSUE of the
request the arbiter has chosen (R144, R145): its operands are the bytes its queue entry holds, as received (R141), so the
constructor has none of its own. The other rows carry what the world brings: a level, the bytes of a frame, a reply, the samples of a
frame, the port or call whose timer falls due. -/
inductive Instr where
  /-- Power-on reset ends, with side A's and side B's LINK RESET inputs at these levels (R21, R140). -/
  | powerOnReset (resetA resetB : Bool)
  /-- Request bytes of side `x`, in the order in which its link takes them (R138). The byte that brings the link's count to 16
  completes a frame, which arrives at the request queue at that event (R139); sixteen bytes on a count of 0 are one whole frame. -/
  | requestFrame (x : Side) (bytes : List Byte)
  | enter
  | amend
  | bar
  | unbar
  | remove
  | lookup
  | readEntry
  | takeoverEntry
  | setGroup
  | readGroup
  | offer
  | connectTrunk
  | confirm
  | scramble
  | release
  | readCall
  | lineAccess
  /-- The controller of bus `k` starts its direct transaction (R51). -/
  | directTransactionStart (k : BusIx)
  /-- The direct transaction of bus `k` ends REPLIED; `value` is what a READ yields (R52). -/
  | lineAccessDone (k : BusIx) (value : Word16)
  | holdPort
  | releaseHold
  | blockPort
  | unblockPort
  | clearFault
  | setCadence
  | setSupervision
  | setFaultMode
  | setGain
  | setGainTable
  | setSweepPeriod
  | setQuietCode
  | setOfferDefaults
  | takeoverSide
  | refresh
  | unknownRequest
  /-- Bus `k` starts its next sweep (R44). -/
  | sweepStart (k : BusIx)
  /-- The step-1 reading of the visit on bus `k` ends REPLIED (R61). -/
  | loopReading (k : BusIx) (reading : Word16)
  /-- Both identity reads of step 3 on bus `k` reply (R26). -/
  | identityRead (k : BusIx) (low high : Word16)
  /-- The step-4 drive write on bus `k` ends REPLIED (R50). -/
  | driveWrite (k : BusIx)
  /-- The step-5 gain write on bus `k` ends REPLIED (R50). -/
  | gainWrite (k : BusIx)
  /-- The probe on bus `k` replies; the value is not interpreted (R41). -/
  | probeReply (k : BusIx) (value : Word16)
  /-- The transaction in progress on bus `k` ends NO-REPLY (R37). In step 3 of a visit `lowReplied` says that the identity
  low part had replied and the high part's read is the one that did not; elsewhere it is not looked at. -/
  | transactionNoReply (k : BusIx) (lowReplied : Bool)
  /-- A reply arrives on bus `k` after its transaction ended NO-REPLY (R37). -/
  | lateReply (k : BusIx) (value : Word16)
  /-- The phase expiry of port `p` falls due (R79). -/
  | ringPhaseExpiry (p : PortIx)
  /-- The step expiry of call `c` falls due (R86). -/
  | stepExpiry (c : CallIx)
  /-- The offer expiry of call `c` falls due (R87). -/
  | offerExpiry (c : CallIx)
  /-- The retest expiry of port `p` falls due (R67). -/
  | retestExpiry (p : PortIx)
  /-- An expected frame sync arrives, with or without the multiframe mark; the frame brings these samples (R114). -/
  | frameSync (mark : Bool) (net line : Samples)
  /-- A frame sync arrives when none is expected (R114). -/
  | unexpectedSync (mark : Bool)
  /-- An expected frame sync does not arrive; a bridged frame brings these samples (R114). -/
  | missedSync (net line : Samples)
  /-- Side `x`'s LINK RESET becomes asserted (R154). -/
  | linkResetAssert (x : Side)
  /-- Side `x`'s LINK RESET is released (R155). -/
  | linkResetRelease (x : Side)
  /-- Side `x`'s LISTEN stands at `listen` while no frame is being sent: a report frame begins when it may (R148, R159). -/
  | reportDelivery (x : Side) (listen : Bool)
  /-- The report frame being sent to side `x` ends, and LISTEN is judged again at `listen` (R148). -/
  | reportFrameSent (x : Side) (listen : Bool)
  deriving DecidableEq, Repr

end Sys2Proof
end

