-- ==== Sys2Proof/WellFormed.lean ====
section
/-! DEFINITION. The checks on a request's operands that their types do not make by themselves. A command has no ill-formed
term: its operands are indices and words of the right size. A request's operands that fail a check here are answered
BAD-FIELD at issue. -/

namespace Sys2Proof

/-- A directory number is 0..9,999 (R10). -/
def numberOk (n : Nat) : Bool := decide (n ≤ Config.maxNumber)

/-- R11 check 1, the part the operand types leave open: the identity is 1..16,777,215, the number 0..9,999, and the groups
are 0..4 without repetition. -/
def EnterArgs.wf (r : EnterArgs) : Bool :=
  decide (0 < r.identity) && decide (r.identity ≤ Config.maxIdentity) && numberOk r.number &&
    decide (r.groups.length ≤ Config.maxGroups) && decide r.groups.Nodup

/-- R12 check 1: a number marked for change is 0..9,999. -/
def AmendArgs.wf (r : AmendArgs) : Bool :=
  match r.number with
  | none => true
  | some n => numberOk n

/-- R16 check 1: a number is 0..9,999; an identity is any 24-bit number. -/
def LookupKey.wf : LookupKey → Bool
  | .identity n => decide (n ≤ Config.maxIdentity)
  | .number n => numberOk n

/-- The entries a SET GROUP gives, whatever its form (R18). -/
def GroupForm.given : GroupForm → List EntryIx
  | .settings _ _ _ es => es
  | .replace es => es
  | .append es => es
  | .drop es => es

/-- R18 check 1: at most 4 entries are given. -/
def SetGroupArgs.wf (r : SetGroupArgs) : Bool := decide (r.form.given.length ≤ 4)

/-- R73: SET GAIN TABLE gives eight codes. -/
def GainTableArgs.wf (r : GainTableArgs) : Bool := decide (r.codes.length = 8)

end Sys2Proof
end

