-- ==== Sys2Proof/Machine/State.lean ====
section
/-! DEFINITION. Everything the spec gives the part to hold, as plain data, and its value at power-on reset. A field the spec
makes present only in one state of a record is carried by that state's constructor, so it cannot be there in another. -/

namespace Sys2Proof.Machine

/-! ## The directory (01) -/

/-- The states of a non-VACANT entry; the bound port is there exactly in BOUND (R2, R7). -/
inductive EntryStatus where
  | entered
  | bound (p : PortIx)
  | barred
  deriving DecidableEq, Repr

/-- The fields of a non-VACANT entry (01 section 1.1). A VACANT entry holds none of them (R1): the directory holds `none`. -/
structure Entry where
  status : EntryStatus
  identity : Nat
  number : Nat
  classes : ClassSet
  handler : Side
  home : Option PortIx
  call : Option CallIx
  groups : List GroupIx
  deriving DecidableEq, Repr

/-- A group record (R8); the step time is in seconds. -/
structure Group where
  members : List EntryIx
  policy : Policy
  cadence : CadenceIx
  stepTime : Nat
  deriving DecidableEq, Repr

/-! ## The port table (02 to 05) -/

/-- The two phases of a port in FAULT; a WAITING port may have a retest expiry, a time in ms (R67). -/
inductive FaultPhase where
  | waiting (retest : Option Nat)
  | measuring
  deriving DecidableEq, Repr

/-- A port's service state: FAULT with its phase, BLOCKED with or without the unblock mark (03, R55, R67). -/
inductive Service where
  | absent
  | active
  | fault (phase : FaultPhase)
  | blocked (mark : Bool)
  deriving DecidableEq, Repr

/-- The debounced hook state (04 section 4.4). -/
inductive Hook where
  | on
  | off
  deriving DecidableEq, Repr

/-- Why a port is REFUSED (R24). -/
inductive RefusalReason where
  | unknown
  | barred
  | inUse
  | mismatch
  deriving DecidableEq, Repr

/-- A port's activity; the refusal reason is there exactly in REFUSED (R23, R24). -/
inductive Activity where
  | idle
  | originating
  | ringing
  | talking
  | refused (reason : RefusalReason)
  deriving DecidableEq, Repr

/-- Which reading a port's next visit takes (R60). -/
inductive Range where
  | fine
  | coarse
  deriving DecidableEq, Repr

/-- The drive of a loop: feed and ring, each on or off (R48). -/
structure Drive where
  feed : Bool
  ring : Bool
  deriving DecidableEq, Repr

/-- The ring state of a ringing port (R78); the phase expiry is a time in ms. -/
structure RingState where
  cadence : CadenceIx
  phaseOn : Bool
  cyclesLeft : Nat
  expiry : Nat
  deriving DecidableEq, Repr

/-- The events a port event set may hold (R158). -/
inductive PortEvent where
  | offHook
  | onHook
  | answer
  | refused
  | fault
  | leakage
  | moduleLost
  deriving DecidableEq, Repr

/-- A port event set: no duplicates and no order, so one flag for each event (R158). -/
structure EventSet where
  offHook : Bool
  onHook : Bool
  answer : Bool
  refused : Bool
  fault : Bool
  leakage : Bool
  moduleLost : Bool
  deriving DecidableEq, Repr

/-- The empty event set. -/
def EventSet.empty : EventSet := ⟨false, false, false, false, false, false, false⟩

/-- A port record (R21, R58, R48 to R50, R53, R78, R158). -/
structure Port where
  service : Service
  hook : Hook
  activity : Activity
  binding : Option EntryIx
  gainIndex : Option (Fin 16)
  pendingCount : Nat
  range : Range
  loopValue : Nat
  overRun : Nat
  leakRun : Nat
  faultFlag : Bool
  leakageFlag : Bool
  ring : Option RingState
  drive : Drive
  lastDrive : Option Drive
  lastGain : Option Nat
  rewrite : Bool
  held : Bool
  eventsA : EventSet
  eventsB : EventSet
  deriving DecidableEq, Repr

/-! ## The line buses (03) -/

/-- A module record (R39). -/
structure ModuleRec where
  present : Bool
  noReply : Nat
  deriving DecidableEq, Repr

/-- The step of a visit that is in progress (R46). Each is one transaction but `identity`, which reads the low part and then the high
part (R26, `State.transactions`). A write carries the value it was started with; the gain write
knows whether step 4 of the same visit wrote and ended REPLIED (R50). -/
inductive VisitStep where
  | loop
  | identity
  | drive (value : Drive)
  | gain (code : Nat) (driveDone : Bool)
  deriving DecidableEq, Repr

/-- Where a bus is in its sweep: waiting for the next sweep to start; between two visits or probes, with the direct
transaction due and the next visit or probe to be looked for from module `m`, line `l`; in a visit; in a probe (R44, R45, R51). -/
inductive SweepAt where
  | waiting
  | between (m : ModuleIx) (l : LineIx)
  | visit (m : ModuleIx) (l : LineIx) (step : VisitStep)
  | probe (m : ModuleIx)
  deriving DecidableEq, Repr

/-- The direct slot of a bus when it is taken: the queue entry it answers (absent once LINK RESET has discarded that
request, R154), the transaction, and whether the transaction is in progress (R51). -/
structure DirectSlot where
  owner : Option Nat
  modul : ModuleIx
  item : ItemIx
  write : Option Word16
  started : Bool
  deriving DecidableEq, Repr

/-- One Line Bus Controller: the number of its present or next sweep, when its last sweep started (a time in ms), where it
is, its 16 module records and its direct slot (R39, R44, R51). -/
structure Bus where
  sweepNumber : Fin 16
  sweepStarted : Option Nat
  sweep : SweepAt
  modules : Vector ModuleRec 16
  direct : Option DirectSlot
  deriving DecidableEq, Repr

/-! ## Ringing and calls (05, 06) -/

/-- A cadence table entry: times in ms and the cycle count (R77). -/
structure Cadence where
  onTime : Nat
  offTime : Nat
  cycles : Nat
  deriving DecidableEq, Repr

/-- The offer part of a call (R81); step time in seconds, expiries as times in ms. -/
structure Offer where
  target : Target
  policy : Policy
  ringing : List EntryIx
  remaining : List EntryIx
  cadence : CadenceIx
  stepTime : Nat
  offerExpiry : Nat
  stepExpiry : Option Nat
  deriving DecidableEq, Repr

/-- The path of a leg (R96). -/
inductive Path where
  | pending
  | clear
  | starting
  | scrambled
  deriving DecidableEq, Repr

/-- A leg of a call; its role is its place in the call (R96). -/
structure Leg where
  port : Option PortIx
  entry : Option EntryIx
  send : SlotIx
  recv : SlotIx
  path : Path
  contexts : Nat
  deriving DecidableEq, Repr

/-- The kind of a call (R96). -/
inductive CallKind where
  | internal
  | trunk
  deriving DecidableEq, Repr

/-- The state of a call that is not FREE; the offer is there exactly in OFFERED (R94). -/
inductive CallPhase where
  | offered (o : Offer)
  | provisional
  | connected
  | releasing
  deriving DecidableEq, Repr

/-- Why a call was released (R94, in the order of its list). -/
inductive ReleaseReason where
  | request
  | onHook
  | fault
  | portLost
  | noAnswer
  | noMember
  | callerGone
  | highway
  deriving DecidableEq, Repr

/-- The fields a call record has while it is not FREE (R94). The legs are in order CALLING then CALLED. The reserved contexts
are those of its legs (`CallBody.reserved`). -/
structure CallBody where
  phase : CallPhase
  handler : Side
  kind : CallKind
  seed : Word24
  anchor : Word16
  mode : Mode
  degraded : Bool
  calling : Option Leg
  called : Option Leg
  deriving DecidableEq, Repr

/-- A call record: FREE when it has no body (R94). -/
structure Call where
  generation : Byte
  lastReason : Option ReleaseReason
  body : Option CallBody
  deriving DecidableEq, Repr

/-! ## The scrambler (08) -/

/-- The direction a context carries (R124). -/
inductive Direction where
  | scramble
  | descramble
  deriving DecidableEq, Repr

/-- A block's permutation: P[0..7], and the inversion mask whose bit i inverts segment position i (R132). -/
structure BlockPerm where
  order : Vector (Fin 8) 8
  mask : Byte
  deriving DecidableEq, Repr

/-- The state of a context that is not FREE, with its buffers (R124). The collecting index is kept by DESCRAMBLE contexts. -/
inductive ContextState where
  | reserved
  | filling (collecting : List Byte) (index : Option Word16)
  | running (collecting : List Byte) (index : Option Word16) (emitting : List Byte) (perm : BlockPerm)
  deriving DecidableEq, Repr

/-- A context that is not FREE: its owner, its variant seed V, its anchor A and its state (R124). -/
structure ContextRec where
  call : CallIx
  role : Role
  direction : Direction
  variant : Word24
  anchor : Word16
  state : ContextState
  deriving DecidableEq, Repr

/-! ## The highways (07) -/

/-- SYNCED or LOST (R113). -/
inductive HighwayState where
  | synced
  | lost
  deriving DecidableEq, Repr

/-- The samples one frame brought in on the two highways (R112). -/
structure FrameIn where
  net : Samples
  line : Samples
  deriving DecidableEq, Repr

/-- What the part puts on the two highways in one frame: a network slot it does not drive is `none` (R112). -/
structure FrameOut where
  net : Vector (Option Byte) 256
  line : Samples
  deriving DecidableEq, Repr

/-- The Highway Unit (R113). `high` is the high part of the announced number between frames 0 and 1 of a block (R114);
`prev` is the frame before, which a clear path sends (R120); `out` is the frame being sent, absent while no frame flows. -/
structure Highway where
  state : HighwayState
  count : Word16
  jumpCount : Nat
  position : Option BlockPos
  high : Option Byte
  announced : Option Word16
  missed : Nat
  prev : Option FrameIn
  out : Option FrameOut
  deriving DecidableEq, Repr

/-! ## Control links, queue and reports (09, 11) -/

/-- The status values of a RESPONSE (R147). -/
inductive Status where
  | done
  | noEntry
  | duplicate
  | inUse
  | notHandler
  | noRoom
  | badField
  | noCall
  | state
  | clas
  | noMember
  | noReply
  deriving DecidableEq, Repr

/-- An object a report item can carry (R156). -/
inductive Obj where
  | entry (e : EntryIx)
  | port (p : PortIx)
  | call (c : CallIx)
  | highway
  deriving DecidableEq, Repr

/-- What a RESPONSE captured at completion (R146); a refusal has no result. -/
structure Response where
  tag : Byte
  status : Status
  result : List Byte
  deriving DecidableEq, Repr

/-- An item of a report list (R156). -/
inductive ReportItem where
  | obj (o : Obj)
  | response (r : Response)
  deriving DecidableEq, Repr

/-- A control link with its side's report list: the LISTEN and LINK RESET inputs as last seen, the request bytes gathered of a
frame that is not complete (R138), the report list (R156), the discarded flag (R139) and the report frame being sent (R148).
READY and the request byte count are computed. -/
structure Link where
  listen : Bool
  linkReset : Bool
  gathered : List Byte
  report : List ReportItem
  discarded : Bool
  sending : Option (List Byte)
  deriving DecidableEq, Repr

/-- What two requests may share (R142). -/
inductive Key where
  | entry (e : EntryIx)
  | port (p : PortIx)
  | call (c : CallIx)
  | group (g : GroupIx)
  | bus (k : BusIx)
  | directory
  | parameters
  | all
  deriving DecidableEq, Repr

/-- A request queue entry (R141). `serial` is the model's own name for it, which wait lists use. Its state WAITING, READY or
ISSUED is computed from `waits` and `issued`. -/
structure QueueEntry where
  serial : Nat
  side : Side
  frame : Frame
  keys : List Key
  waits : List Nat
  issued : Bool
  deriving DecidableEq, Repr

/-- The settings: supervision (R74), fault mode (R70), gain (R73), sweep period in ms (R57), quiet code (R122), default
offer expiry in s (R87). -/
structure Settings where
  offt : Nat
  ont : Nat
  rtt : Nat
  oct : Nat
  leakt : Nat
  debounce : Nat
  faultMode : FaultMode
  retestInterval : Nat
  gainBase : Nat
  gainStep : Nat
  gainTable : Vector Nat 16
  sweepPeriod : Nat
  quietCode : Byte
  offerDefault : Nat
  deriving DecidableEq, Repr

/-- The whole part. `now` is the time in ms that the part's timers are counted on; `nextSerial` names queue entries;
`pending` is the queue of commands that have not yet been taken, first in, first out. -/
structure State where
  entries : Vector (Option Entry) 512
  groups : Vector Group 32
  ports : Vector Port 256
  buses : Vector Bus 4
  cadences : Vector Cadence 4
  calls : Vector Call 128
  contexts : Vector (Option ContextRec) 192
  highway : Highway
  linkA : Link
  linkB : Link
  queue : List QueueEntry
  nextSerial : Nat
  lastServed : Side
  settings : Settings
  now : Nat
  pending : List Instr
  deriving DecidableEq, Repr

/-- The reasons the machine stops. There is none: the spec gives every command an effect, and a FAULT of a port is a state of
the port, not a stop of the part. -/
inductive Fault where
  deriving DecidableEq, Repr

/-- The reasons a command has no meaning here. -/
inductive Refusal where
  /-- Raised by an arm of `exec` whose command has no meaning yet; safe. No arm raises it. -/
  | notModelled (mnemonic : String)
  deriving DecidableEq, Repr

/-! ## Power-on reset -/

/-- A port at power-on reset (R21, R48, R50, R53, R58, R78, R158). -/
def Port.reset : Port where
  service := .absent
  hook := .on
  activity := .idle
  binding := none
  gainIndex := none
  pendingCount := 0
  range := .fine
  loopValue := 0
  overRun := 0
  leakRun := 0
  faultFlag := false
  leakageFlag := false
  ring := none
  drive := ⟨false, false⟩
  lastDrive := none
  lastGain := none
  rewrite := false
  held := false
  eventsA := .empty
  eventsB := .empty

/-- A group at power-on reset (R8). -/
def Group.reset : Group := ⟨[], .all, 0, 10⟩

/-- A bus at power-on reset: every module ABSENT, sweep number 0, no sweep started, an empty direct slot (R40, R44, R51). -/
def Bus.reset : Bus := ⟨0, none, .waiting, Vector.replicate 16 ⟨false, 0⟩, none⟩

/-- A call record at power-on reset (R94). -/
def Call.reset : Call := ⟨0, none, none⟩

/-- The Highway Unit at power-on reset (R113). -/
def Highway.reset : Highway := ⟨.lost, 0, 0, none, none, none, 0, none, none⟩

/-- A control link at power-on reset, its inputs deasserted (R138, R139, R148, R156). -/
def Link.reset : Link := ⟨false, false, [], [], false, none⟩

/-- The settings at power-on reset (R57, R70, R73, R74, R87, R122). -/
def Settings.reset : Settings where
  offt := 1000
  ont := 600
  rtt := 3000
  oct := 8000
  leakt := 200
  debounce := 3
  faultMode := .retest
  retestInterval := 500
  gainBase := 4000
  gainStep := 125
  gainTable := Vector.replicate 16 32
  sweepPeriod := 5
  quietCode := 213
  offerDefault := 30

/-- The cadence table at power-on reset (R77). -/
def resetCadences : Vector Cadence 4 :=
  #v[⟨1000, 2000, 255⟩, ⟨500, 500, 255⟩, ⟨250, 250, 255⟩, ⟨2000, 4000, 10⟩]

/-- The part right after power-on reset, with no command waiting and every input deasserted. -/
def State.reset : State where
  entries := Vector.replicate 512 none
  groups := Vector.replicate 32 .reset
  ports := Vector.replicate 256 .reset
  buses := Vector.replicate 4 .reset
  cadences := resetCadences
  calls := Vector.replicate 128 .reset
  contexts := Vector.replicate 192 none
  highway := .reset
  linkA := .reset
  linkB := .reset
  queue := []
  nextSerial := 0
  lastServed := .b
  settings := .reset
  now := 0
  pending := []

end Sys2Proof.Machine
end

