-- ==== Sys2Proof/Machine/Tables.lean ====
section
/-! DEFINITION. Records of one kind held in a table of fixed size: the members with their numbers, the first member that meets
a condition, every member changed, a table from a function. -/

namespace Sys2Proof.Machine

/-- The members of a table with their numbers, in ascending order. -/
def indexed {α : Type} {n : Nat} (v : Vector α n) : List (Fin n × α) := (List.finRange n).zip v.toList

/-- The lowest-numbered member that meets `P`. -/
def firstIx {α : Type} {n : Nat} (P : Fin n → α → Bool) (v : Vector α n) : Option (Fin n) :=
  ((indexed v).find? fun x => P x.1 x.2).map (·.1)

/-- The numbers of the members that meet `P`, in ascending order. -/
def allIx {α : Type} {n : Nat} (P : Fin n → α → Bool) (v : Vector α n) : List (Fin n) :=
  ((indexed v).filter fun x => P x.1 x.2).map (·.1)

/-- The table with every member changed by `f`. -/
def mapIx {α β : Type} {n : Nat} (f : Fin n → α → β) (v : Vector α n) : Vector β n :=
  ⟨⟨(indexed v).map fun x => f x.1 x.2⟩, by simp [indexed]⟩

/-- The table whose member `i` is `f i`. -/
def tabulate {α : Type} {n : Nat} (f : Fin n → α) : Vector α n :=
  ⟨⟨(List.finRange n).map f⟩, by simp⟩

end Sys2Proof.Machine
end

