-- ==== Sys2Proof/Machine/Ops.lean ====
section
/-! DEFINITION. The named operations over State that every command is written in: reading and writing one record, marking the
objects an event changes and recording port events (R157, R158), placing a RESPONSE and taking a request out of the queue
(R145). -/

namespace Sys2Proof.Machine

/-! ## One record of a table -/

/-- Entry `e`; none is VACANT. -/
def State.entry (s : State) (e : EntryIx) : Option Entry := s.entries[e]
/-- Group `g`. -/
def State.group (s : State) (g : GroupIx) : Group := s.groups[g]
/-- Port `p`. -/
def State.port (s : State) (p : PortIx) : Port := s.ports[p]
/-- Line Bus Controller `k`. -/
def State.bus (s : State) (k : BusIx) : Bus := s.buses[k]
/-- Cadence table entry `i`. -/
def State.cadence (s : State) (i : CadenceIx) : Cadence := s.cadences[i]
/-- Call record `c`. -/
def State.call (s : State) (c : CallIx) : Call := s.calls[c]
/-- Scramble context `x`; none is FREE. -/
def State.context (s : State) (x : ContextIx) : Option ContextRec := s.contexts[x]
/-- The control link of a side, with its report list. -/
def State.link (s : State) : Side → Link
  | .a => s.linkA
  | .b => s.linkB

def State.setEntry (s : State) (e : EntryIx) (r : Option Entry) : State := { s with entries := s.entries.set e r }
def State.setGroup (s : State) (g : GroupIx) (r : Group) : State := { s with groups := s.groups.set g r }
def State.setPort (s : State) (p : PortIx) (r : Port) : State := { s with ports := s.ports.set p r }
def State.setBus (s : State) (k : BusIx) (r : Bus) : State := { s with buses := s.buses.set k r }
def State.setCadence (s : State) (i : CadenceIx) (r : Cadence) : State := { s with cadences := s.cadences.set i r }
def State.setCall (s : State) (c : CallIx) (r : Call) : State := { s with calls := s.calls.set c r }
def State.setContext (s : State) (x : ContextIx) (r : Option ContextRec) : State :=
  { s with contexts := s.contexts.set x r }
def State.setLink (s : State) (x : Side) (l : Link) : State :=
  match x with
  | .a => { s with linkA := l }
  | .b => { s with linkB := l }
def State.setSettings (s : State) (t : Settings) : State := { s with settings := t }
def State.setHighway (s : State) (h : Highway) : State := { s with highway := h }
def State.setQueue (s : State) (q : List QueueEntry) : State := { s with queue := q }
def State.setContexts (s : State) (v : Vector (Option ContextRec) 192) : State := { s with contexts := v }
def State.setCalls (s : State) (v : Vector Call 128) : State := { s with calls := v }
def State.setPorts (s : State) (v : Vector Port 256) : State := { s with ports := v }
def State.setEntries (s : State) (v : Vector (Option Entry) 512) : State := { s with entries := v }
def State.setGroups (s : State) (v : Vector Group 32) : State := { s with groups := v }

/-- A time that has fallen due has come: the part's time is at least it (assumption 2). -/
def State.reachTime (s : State) (t : Nat) : State := { s with now := max s.now t }

/-- Whether a side's LINK RESET input is asserted. -/
def State.resetHeld (s : State) (x : Side) : Bool := (s.link x).linkReset

/-! ## Looking a record up -/

/-- The identity map (R3): the entry that holds identity `n`. -/
def State.identityMap (s : State) (n : Nat) : Option EntryIx :=
  firstIx (fun _ r => match r with
    | some e => e.identity == n
    | none => false) s.entries

/-- The number map (R3): the entry that holds directory number `n`. -/
def State.numberMap (s : State) (n : Nat) : Option EntryIx :=
  firstIx (fun _ r => match r with
    | some e => e.number == n
    | none => false) s.entries

/-- The entry that names port `p` as its home port (R6). -/
def State.homeOf (s : State) (p : PortIx) : Option EntryIx :=
  firstIx (fun _ r => match r with
    | some e => e.home == some p
    | none => false) s.entries

/-- The port an entry is bound to, when it is BOUND (R7). -/
def Entry.boundPort (r : Entry) : Option PortIx :=
  match r.status with
  | .bound p => some p
  | _ => none

/-- The bound port of entry `e`, if it has one. -/
def State.boundPort (s : State) (e : EntryIx) : Option PortIx := (s.entry e).bind Entry.boundPort

/-- The lowest-numbered FREE call record (R95). -/
def State.freeCall (s : State) : Option CallIx := firstIx (fun _ c => c.body.isNone) s.calls

/-- The FREE contexts, lowest-numbered first (R125). -/
def State.freeContexts (s : State) : List ContextIx := allIx (fun _ x => x.isNone) s.contexts

/-- The port of line `l` of module `m` on bus `k` (R38). -/
def portOf (k : BusIx) (m : ModuleIx) (l : LineIx) : PortIx := ⟨k.val * 64 + m.val * 4 + l.val, by omega⟩

/-! ## An event in progress -/

/-- What an event is caused by, which says whose lists its changes are marked in (R157). -/
inductive Cause where
  | autonomous
  | request (x : Side)
  deriving DecidableEq, Repr

/-- An event being taken: the state so far and the objects it marks in side A's and in side B's list, which are marked
together at its end so that they join in the order of R157. -/
structure Work where
  st : State
  cause : Cause
  toA : List Obj
  toB : List Obj
  deriving DecidableEq, Repr

/-- The start of an event. -/
def Work.start (s : State) (cause : Cause) : Work := ⟨s, cause, [], []⟩

/-- The state changed by `f`. -/
def Work.onState (w : Work) (f : State → State) : Work := { w with st := f w.st }

/-- Port `p` changed by `f`. -/
def Work.onPort (w : Work) (p : PortIx) (f : Port → Port) : Work :=
  w.onState fun s => s.setPort p (f (s.port p))

/-- Entry `e`, when it is not VACANT, changed by `f`. -/
def Work.onEntry (w : Work) (e : EntryIx) (f : Entry → Entry) : Work :=
  w.onState fun s => s.setEntry e ((s.entry e).map f)

/-- Bus `k` changed by `f`. -/
def Work.onBus (w : Work) (k : BusIx) (f : Bus → Bus) : Work := w.onState fun s => s.setBus k (f (s.bus k))

/-- The body of call `c`, when it is not FREE, changed by `f`. -/
def Work.onCall (w : Work) (c : CallIx) (f : CallBody → CallBody) : Work :=
  w.onState fun s => s.setCall c { s.call c with body := (s.call c).body.map f }

/-- `o` is marked in both lists at the end of the event. -/
def Work.touchBoth (w : Work) (o : Obj) : Work := { w with toA := o :: w.toA, toB := o :: w.toB }

/-- `o` is marked in the list of side `x` at the end of the event. -/
def Work.touchSide (w : Work) (x : Side) (o : Obj) : Work :=
  match x with
  | .a => { w with toA := o :: w.toA }
  | .b => { w with toB := o :: w.toB }

/-- `o` has changed: an autonomous change is marked in both lists, a request-caused one in the other side's (R157). -/
def Work.touch (w : Work) (o : Obj) : Work :=
  match w.cause with
  | .autonomous => w.touchBoth o
  | .request x => w.touchSide x.other o

/-- An event added to a port event set (R158). -/
def EventSet.add (v : EventSet) : PortEvent → EventSet
  | .offHook => { v with offHook := true }
  | .onHook => { v with onHook := true }
  | .answer => { v with answer := true }
  | .refused => { v with refused := true }
  | .fault => { v with fault := true }
  | .leakage => { v with leakage := true }
  | .moduleLost => { v with moduleLost := true }

/-- A port's event set for a side. -/
def Port.events (r : Port) : Side → EventSet
  | .a => r.eventsA
  | .b => r.eventsB

/-- A port with its event set for a side replaced. -/
def Port.setEvents (r : Port) (x : Side) (v : EventSet) : Port :=
  match x with
  | .a => { r with eventsA := v }
  | .b => { r with eventsB := v }

/-- The event recorded in side `x`'s set of port `p`, unless `x`'s LINK RESET is held (R155, R158). -/
def Work.recordFor (w : Work) (x : Side) (p : PortIx) (ev : PortEvent) : Work :=
  if w.st.resetHeld x then w else (w.onPort p fun r => r.setEvents x ((r.events x).add ev)).touchSide x (.port p)

/-- The event recorded at port `p`: in both sets for an autonomous event, in the other side's for a request-caused one. To
record an event in a side's set also marks PORT p in that side's list (R158). -/
def Work.recordEvent (w : Work) (p : PortIx) (ev : PortEvent) : Work :=
  match w.cause with
  | .autonomous => (w.recordFor .a p ev).recordFor .b p ev
  | .request x => w.recordFor x.other p ev

/-! ## Marking (R156, R157) -/

/-- The place of an object in the order in which the items of one event join a list: ENTRY, PORT, CALL, HIGHWAY (R157). -/
def Obj.rank : Obj → Nat
  | .entry e => e
  | .port p => 512 + p
  | .call c => 768 + c
  | .highway => 896

/-- `o` put into a list kept in the order of `Obj.rank` without repetition. -/
def insertObj (o : Obj) : List Obj → List Obj
  | [] => [o]
  | x :: xs => if o.rank < x.rank then o :: x :: xs else if o = x then x :: xs else x :: insertObj o xs

/-- The objects of one event in the order they join a list, each once (R157). -/
def orderObjs (os : List Obj) : List Obj := os.foldr insertObj []

/-- An object marked in a report list: it joins at the tail, or stays where it stands (R156). -/
def markIn (items : List ReportItem) (o : Obj) : List ReportItem :=
  if items.contains (.obj o) then items else items ++ [.obj o]

/-- Objects marked in side `x`'s list in the order given, unless its LINK RESET is held (R155, R157). -/
def State.markAll (s : State) (x : Side) (os : List Obj) : State :=
  if s.resetHeld x then s
  else s.setLink x { s.link x with report := os.foldl markIn (s.link x).report }

/-- The end of an event: its objects are marked in each side's list. -/
def Work.finish (w : Work) : State :=
  (w.st.markAll .a (orderObjs w.toA)).markAll .b (orderObjs w.toB)

/-! ## Responses and the queue -/

/-- A RESPONSE placed at the tail of the requester's list (R146), unless its LINK RESET is held (R155). -/
def State.placeResponse (s : State) (x : Side) (r : Response) : State :=
  if s.resetHeld x then s
  else s.setLink x { s.link x with report := (s.link x).report ++ [.response r] }

/-- The queue without the entries `gone` picks out; each that leaves is taken out of the wait lists of the others (R141). -/
def leaveQueue (gone : QueueEntry → Bool) (q : List QueueEntry) : List QueueEntry :=
  let left := (q.filter gone).map (·.serial)
  (q.filter fun e => !gone e).map fun e => { e with waits := e.waits.filter fun n => !left.contains n }

/-- The completion of request `q` (R145): its RESPONSE is placed, the objects changed are marked, and it leaves the queue. -/
def Work.complete (w : Work) (q : QueueEntry) (status : Status) (result : List Byte) : State :=
  let s := (w.onState fun s => s.placeResponse q.side ⟨q.frame.tag, status, result⟩).finish
  s.setQueue (leaveQueue (fun e => e.serial == q.serial) s.queue)

end Sys2Proof.Machine
end

