-- ==== Sys2Proof/Machine/Flags.lean ====
section
/-! DEFINITION. What the spec gives as a flag, a count or a state of its own and what is computed from the records: READY and the
outstanding count (R139, R140), a queue entry's state (R141), a call's contexts and whether it is scrambling (R100), the
desired gain code (R72), ringing judgement (R62), eligibility (R83), the live legs (R119). -/

namespace Sys2Proof.Machine

/-! ## Queue and links -/

/-- The states of a queue entry (R141). -/
inductive EntryState where
  | waiting
  | ready
  | issued
  deriving DecidableEq, Repr

/-- R143: an entry is WAITING while its wait list is not empty, then READY until it is issued. -/
def QueueEntry.state (q : QueueEntry) : EntryState :=
  if q.issued then .issued else if q.waits.isEmpty then .ready else .waiting

/-- Whether a report item is a RESPONSE. -/
def ReportItem.isResponse : ReportItem → Bool
  | .response _ => true
  | .obj _ => false

/-- The number of side `x`'s requests in the queue. -/
def State.queued (s : State) (x : Side) : Nat := (s.queue.filter fun q => q.side == x).length

/-- The number of undelivered RESPONSE items in side `x`'s list. -/
def State.undelivered (s : State) (x : Side) : Nat := ((s.link x).report.filter ReportItem.isResponse).length

/-- R139: the outstanding count of side `x`. -/
def State.outstanding (s : State) (x : Side) : Nat := s.queued x + s.undelivered x

/-- R138: a link's request byte count, 0..15: how many bytes it has gathered of the frame that is not complete. -/
def Link.byteCount (l : Link) : Nat := l.gathered.length

/-- R140: READY of side `x`, which is also whether a frame from `x` would be taken (R139). -/
def State.ready (s : State) (x : Side) : Bool :=
  decide (s.outstanding x < Config.sideShare) && decide (s.queue.length < Config.queueSize) && !s.resetHeld x

/-! ## Calls -/

/-- The leg of a role. -/
def CallBody.leg (b : CallBody) : Role → Option Leg
  | .calling => b.calling
  | .called => b.called

/-- The legs with their roles, CALLING then CALLED (R94). -/
def CallBody.legs (b : CallBody) : List (Role × Leg) :=
  (b.calling.toList.map fun l => (Role.calling, l)) ++ b.called.toList.map fun l => (Role.called, l)

/-- The call's reserved contexts: those of its legs (R96). -/
def CallBody.reserved (b : CallBody) : Nat := (b.legs.map fun l => l.2.contexts).sum

/-- R100: a call is scrambling when its mode is not OFF and its reserved contexts are not 0. -/
def CallBody.scrambling (b : CallBody) : Bool := b.mode != .off && b.reserved != 0

/-- OFFERED, PROVISIONAL or CONNECTED (R97). -/
def CallBody.isLive (b : CallBody) : Bool :=
  match b.phase with
  | .releasing => false
  | _ => true

/-- The offer part, while OFFERED. -/
def CallBody.offer? (b : CallBody) : Option Offer :=
  match b.phase with
  | .offered o => some o
  | _ => none

/-- Whether port `p` is the port of a leg. -/
def CallBody.hasPort (b : CallBody) (p : PortIx) : Bool := b.legs.any fun l => l.2.port == some p

/-- The send slots a call that is not FREE holds (R98). -/
def CallBody.sendSlots (b : CallBody) : List SlotIx := b.legs.map fun l => l.2.send

/-- R98: whether a call that is not FREE holds send slot `n`. -/
def State.slotHeld (s : State) (n : SlotIx) : Bool :=
  (firstIx (fun _ c => match c.body with
    | some b => b.sendSlots.contains n
    | none => false) s.calls).isSome

/-- The live call that port `p` is the port of a leg of (R23, R97). -/
def State.callOfPort (s : State) (p : PortIx) : Option CallIx :=
  firstIx (fun _ c => match c.body with
    | some b => b.isLive && b.hasPort p
    | none => false) s.calls

/-- The call whose ringing list port `p`'s bound entry is in, with that entry (R23). -/
def State.ringingOn (s : State) (p : PortIx) : Option (CallIx × EntryIx) :=
  match (s.port p).binding with
  | none => none
  | some e =>
    match (s.entry e).bind Entry.call with
    | none => none
    | some c =>
      match (s.call c).body.bind CallBody.offer? with
      | some o => if o.ringing.contains e then some (c, e) else none
      | none => none

/-- The legs that are live in a frame (R119): the calling leg of an OFFERED INTERNAL call, and every leg of a PROVISIONAL or
CONNECTED call. -/
def CallBody.liveLegs (b : CallBody) : List (Role × Leg) :=
  match b.phase with
  | .offered _ => b.calling.toList.map fun l => (Role.calling, l)
  | .provisional => b.legs
  | .connected => b.legs
  | .releasing => []

/-- Every live leg of the part, with its call. -/
def State.liveLegs (s : State) : List (CallIx × Role × Leg) :=
  (indexed s.calls).flatMap fun x => match x.2.body with
    | some b => b.liveLegs.map fun l => (x.1, l)
    | none => []

/-! ## Scramble resolution (R99) and eligibility (R83) -/

/-- R99: the resolved mode for a requested mode and the scramble classes of the local parties; none is refused CLASS. -/
def resolveMode (requested : Mode) (parties : List ScrambleClass) : Option Mode :=
  if parties.contains .always then
    if parties.contains .never then none else some .required
  else if parties.contains .never then
    if requested = .required then none else some .off
  else some requested

/-- R83: whether a member's scramble class leaves the resolved mode unchanged and not refused. -/
def compatible : Mode → ScrambleClass → Bool
  | .off, .always => false
  | .off, _ => true
  | .preferred, .allowed => true
  | .preferred, _ => false
  | .required, .never => false
  | .required, _ => true

/-- R83: whether entry `e` is an eligible member of an offer of this kind, target and resolved mode, as things stand. -/
def State.eligible (s : State) (kind : CallKind) (target : Target) (mode : Mode) (e : EntryIx) : Bool :=
  match s.entry e with
  | none => false
  | some r =>
    match r.boundPort with
    | none => false
    | some p =>
      let q := s.port p
      q.service == .active && q.hook == .on && q.activity == .idle && r.call.isNone &&
        (match target with
          | .group _ => r.classes.group
          | .entry _ => true) &&
        (match kind with
          | .trunk => r.classes.trunk
          | .internal => true) &&
        compatible mode r.classes.scramble

/-! ## Ports -/

/-- R72: the desired gain code: table entry g while the index is g, code 32 while it is absent. -/
def State.desiredGain (s : State) (p : PortIx) : Nat :=
  match (s.port p).gainIndex with
  | some g => s.settings.gainTable[g]
  | none => Config.absentGainCode

/-- R72: floor((gain base − L) / gain step), clamped to 0..15. -/
def gainIndexOf (t : Settings) (l : Nat) : Fin 16 :=
  let g : Int := ((t.gainBase : Int) - l) / t.gainStep
  ⟨(max 0 (min 15 g)).toNat, by omega⟩

/-- R62: ringing judgement applies when the hook is ON and either the ring phase is ON or the last-written drive has ring
on. -/
def Port.ringJudged (r : Port) : Bool :=
  r.hook == .on &&
    ((match r.ring with
      | some g => g.phaseOn
      | none => false) ||
     (match r.lastDrive with
      | some d => d.ring
      | none => false))

/-- R62: whether a visit with loop value `l` counts toward a hook change. -/
def Port.counts (r : Port) (t : Settings) (l : Nat) : Bool :=
  match r.hook with
  | .on => if r.ringJudged then decide (t.rtt ≤ l) else decide (t.offt ≤ l)
  | .off => decide (l < t.ont)

/-- R62: how many counting visits a hook change needs. -/
def Port.visitsNeeded (r : Port) (t : Settings) : Nat := if r.ringJudged then Config.ringTripVisits else t.debounce

/-- R55, R68: a reading qualifies when it was taken while the last-written drive had feed on or the port was held. -/
def Port.fed (r : Port) : Bool :=
  r.held || match r.lastDrive with
    | some d => d.feed
    | none => false

/-- R50: the drive is written at step 4 when the port is not held and the desired drive differs from the last-written one or
the rewrite flag is set. -/
def Port.driveDue (r : Port) : Bool := !r.held && (r.lastDrive != some r.drive || r.rewrite)

/-- R50, R47: the gain code is written at step 5 under the same conditions, and not for a BLOCKED port. -/
def State.gainDue (s : State) (p : PortIx) : Bool :=
  let r := s.port p
  (match r.service with
    | .active => true
    | .fault _ => true
    | _ => false) &&
  !r.held && (r.lastGain != some (s.desiredGain p) || r.rewrite)

/-- The hook re-learned from a loop value: ON below OFFT, OFF otherwise (R55, R68). -/
def relearned (t : Settings) (l : Nat) : Hook := if l < t.offt then .on else .off

end Sys2Proof.Machine
end

