-- ==== Sys2Proof/Machine/CallOps.lean ====
section
/-! DEFINITION. What several commands do to calls, offers and ringing ports: ringing starts and stops (R78, R80), contexts are
reserved and returned (R125, R127), a call is released and freed (R107, R108), an offer steps and loses members (R86, R88). -/

namespace Sys2Proof.Machine

/-! ## A port's activity and ringing -/

/-- The activity becomes IDLE, and with it the refusal reason and the gain index go (R24). -/
def Port.becomeIdle (r : Port) : Port := { r with activity := .idle, gainIndex := none }

/-- The activity becomes REFUSED; a REFUSED port has no gain index (R24). -/
def Port.refuse (r : Port) (why : RefusalReason) : Port := { r with activity := .refused why, gainIndex := none }

/-- R78: the port's ring state at the start of ringing, on cadence `i` of the table, at time `now`. -/
def Port.startRing (r : Port) (i : CadenceIx) (cad : Cadence) (now : Nat) : Port :=
  { r with
    ring := some ⟨i, true, cad.cycles, now + cad.onTime⟩
    drive := { r.drive with ring := true }
    activity := .ringing }

/-- R80: the ring state is cleared and the desired drive becomes ring off with feed unchanged. -/
def Port.stopRing (r : Port) : Port := { r with ring := none, drive := { r.drive with ring := false } }

/-- A ringing member's port when it stops ringing without its answer being taken: IDLE, unless it is not RINGING any more
(R23, R80). -/
def Port.quitRinging (r : Port) : Port := if r.activity = .ringing then r.stopRing.becomeIdle else r.stopRing

/-- The call field of entry `e` is cleared when it names call `c` (R7). -/
def Work.clearCallField (w : Work) (c : CallIx) (e : EntryIx) : Work :=
  if (w.st.entry e).bind Entry.call = some c then
    (w.onEntry e fun r => { r with call := none }).touch (.entry e)
  else w

/-- The call field of entry `e` is set to call `c` (R7). -/
def Work.setCallField (w : Work) (c : CallIx) (e : EntryIx) : Work :=
  (w.onEntry e fun r => { r with call := some c }).touch (.entry e)

/-- Entry `e` of call `c`'s ringing list stops ringing: its port's ringing stops and the port becomes IDLE, and its call field
is cleared (R86, R89, R91). -/
def Work.stopMember (c : CallIx) (w : Work) (e : EntryIx) : Work :=
  let w1 := match w.st.boundPort e with
    | some p => (w.onPort p Port.quitRinging).touch (.port p)
    | none => w
  w1.clearCallField c e

/-- Entry `e` begins to ring for call `c` on cadence `i` (R78, R85): its call field is set and its port begins to ring. -/
def Work.ringMember (c : CallIx) (i : CadenceIx) (w : Work) (e : EntryIx) : Work :=
  let w1 := w.setCallField c e
  match w1.st.boundPort e with
  | some p => (w1.onPort p fun r => r.startRing i (w1.st.cadence i) w1.st.now).touch (.port p)
  | none => w1

/-! ## Contexts -/

/-- R130: the variant seed of a leg's context: S for speech from CALLING toward CALLED, S + 8,388,608 for the other way. -/
def variantSeed (seed : Word24) : Role → Direction → Word24
  | .calling, .scramble => seed
  | .calling, .descramble => seed + 8388608#24
  | .called, .scramble => seed + 8388608#24
  | .called, .descramble => seed

/-- The contexts a call's legs take, in the order of R125, each RESERVED. -/
def contextsFor (c : CallIx) (b : CallBody) : List ContextRec :=
  b.legs.flatMap fun l =>
    [⟨c, l.1, .scramble, variantSeed b.seed l.1 .scramble, b.anchor, .reserved⟩,
     ⟨c, l.1, .descramble, variantSeed b.seed l.1 .descramble, b.anchor, .reserved⟩]

/-- R125: the lowest-numbered FREE contexts taken for the legs of call `c`. -/
def State.reserveContexts (s : State) (c : CallIx) (b : CallBody) : State :=
  (s.freeContexts.zip (contextsFor c b)).foldl (fun t x => t.setContext x.1 (some x.2)) s

/-- Whether a context belongs to call `c`. -/
def ownedBy (c : CallIx) : Option ContextRec → Bool
  | some x => x.call == c
  | none => false

/-- R127: at the release of call `c` each of its contexts becomes RESERVED and discards its buffers. -/
def State.silenceContexts (s : State) (c : CallIx) : State :=
  s.setContexts (mapIx (fun _ x => if ownedBy c x then x.map fun r => { r with state := .reserved } else x) s.contexts)

/-- R127: the contexts of call `c` return to FREE. -/
def State.returnContexts (s : State) (c : CallIx) : State :=
  s.setContexts (mapIx (fun _ x => if ownedBy c x then none else x) s.contexts)

/-! ## Release -/

/-- R108: a call becomes FREE: its live fields go, its contexts return, and it is marked in both lists. Its generation and
last release reason stay. -/
def Work.freeCall (w : Work) (c : CallIx) : Work :=
  ((w.onState fun s => s.setCall c { s.call c with body := none }).onState fun s => s.returnContexts c).touchBoth (.call c)

/-- R107 step 2: the port of a leg that is still TALKING is set free: ORIGINATING with hook OFF, IDLE with hook ON. A port
whose service has left ACTIVE is already IDLE (R25). -/
def Work.freePort (w : Work) (p : PortIx) : Work :=
  let r := w.st.port p
  if r.activity = .talking ∧ r.service = .active then
    (w.onPort p fun r => if r.hook = .off then { r with activity := .originating } else r.becomeIdle).touch (.port p)
  else w

/-- R107 step 4: the ringing members of the offer stop ringing (R89). -/
def Work.stopOffer (w : Work) (c : CallIx) (o : Option Offer) : Work :=
  match o with
  | some o => o.ringing.foldl (Work.stopMember c) w
  | none => w

/-- R107: the release of live call `c` with a reason; a call that is RELEASING or FREE is left as it is. While the highway is
LOST the call becomes FREE at this event (R108). -/
def Work.releaseCall (w : Work) (c : CallIx) (why : ReleaseReason) : Work :=
  match (w.st.call c).body with
  | none => w
  | some b =>
    if b.isLive then
      let w1 := (w.onState fun s =>
        s.setCall c { s.call c with lastReason := some why, body := some { b with phase := .releasing } }).touch (.call c)
      let w2 := (b.legs.filterMap fun l => l.2.port).foldl Work.freePort w1
      let w3 := (b.legs.filterMap fun l => l.2.entry).foldl (fun w e => w.clearCallField c e) w2
      let w4 := w3.stopOffer c b.offer?
      let w5 := w4.onState fun s => s.silenceContexts c
      if w.st.highway.state = .lost then w5.freeCall c else w5
    else w

/-! ## Steps and members that go -/

/-- The offer part of call `c` replaced. -/
def Work.setOffer (w : Work) (c : CallIx) (o : Offer) : Work := w.onCall c fun b => { b with phase := .offered o }

/-- R86 item 2: the remaining list taken from its head up to the first eligible member, with what is left after it. -/
def State.nextMember (s : State) (b : CallBody) (o : Offer) : List EntryIx → Option (EntryIx × List EntryIx)
  | [] => none
  | e :: es => if s.eligible b.kind o.target b.mode e then some (e, es) else s.nextMember b o es

/-- R86 items 2 and 3: a step of call `c`'s offer, its ringing list being empty: the next eligible member rings and the step
expiry is set from this event, or the call is released NO-ANSWER. -/
def Work.takeStep (w : Work) (c : CallIx) : Work :=
  match (w.st.call c).body with
  | none => w
  | some b =>
    match b.offer? with
    | none => w
    | some o =>
      match w.st.nextMember b o o.remaining with
      | some (e, es) =>
        ((w.setOffer c { o with
            ringing := [e], remaining := es, stepExpiry := some (w.st.now + o.stepTime * 1000) }).touch
          (.call c)).ringMember c o.cadence e
      | none => w.releaseCall c .noAnswer

/-- The three ways of R88 in which a ringing member leaves the list. -/
inductive MemberLoss where
  | ineligible
  | cyclesSpent
  | mismatch
  deriving DecidableEq, Repr

/-- R88: entry `e` leaves the ringing list of call `c` without its answer being taken: its call field is cleared, and the
offer rings on, steps, or is released. What becomes of its port is the caller's. -/
def Work.removeMember (w : Work) (c : CallIx) (e : EntryIx) (why : MemberLoss) : Work :=
  match (w.st.call c).body with
  | none => w
  | some b =>
    match b.offer? with
    | none => w
    | some o =>
      if o.ringing.contains e then
        let left := o.ringing.filter fun x => x != e
        let w1 := ((w.setOffer c { o with ringing := left }).touch (.call c)).clearCallField c e
        if left.isEmpty then
          match o.policy with
          | .all => w1.releaseCall c (if why = .ineligible then .noMember else .noAnswer)
          | .sequential => w1.takeStep c
        else w1
      else w

/-- A port leaves ACTIVE (R25, R80): its activity becomes IDLE, its refusal reason and gain index go and its ringing stops. -/
def Port.leaveActive (r : Port) (service : Service) : Port := { r.stopRing.becomeIdle with service := service }

/-- R93: an offer event, which is autonomous whatever caused it: `f` marks in both lists. -/
def Work.autonomously (w : Work) (f : Work → Work) : Work := { f { w with cause := .autonomous } with cause := w.cause }

/-- What becomes of the call or the offer of a port that has left ACTIVE: the call of a leg is released, and a ringing member is
taken out as ineligible (R42 item 3, R54, R66 item 2). `member` is its ringing call and entry before the event. The loss of a member
is an offer event, and the port is one whose activity it changed (R93, assumption 15). -/
def Work.dropPort (w : Work) (p : PortIx) (member : Option (CallIx × EntryIx)) (why : ReleaseReason) : Work :=
  let w1 := match w.st.callOfPort p with
    | some c => w.releaseCall c why
    | none => w
  match member with
  | some (c, e) => w1.autonomously fun w => (w.touch (.port p)).removeMember c e .ineligible
  | none => w1

end Sys2Proof.Machine
end

