-- ==== Sys2Proof/Machine/Operands.lean ====
section
/-! DEFINITION. The operand bytes of request frames, read and written (R161). Multi-byte fields are high byte first. A read
that finds a code outside its range, or a flag bit or operand byte that the layout leaves undefined and that is not 0,
answers none: such a request is answered BAD-FIELD at issue (R147). -/

namespace Sys2Proof.Machine

/-! ## Bytes and numbers -/

/-- A two-byte field, high byte first. -/
def u16 (h l : Byte) : Nat := h.toNat * 256 + l.toNat

/-- A three-byte field, high byte first. -/
def u24 (h m l : Byte) : Nat := (h.toNat * 256 + m.toNat) * 256 + l.toNat

/-- Byte `k` of a number, byte 0 the least significant. -/
def byteOf (n k : Nat) : Byte := BitVec.ofNat 8 (n / 256 ^ k)

/-- A number as one byte. -/
def b8 (n : Nat) : Byte := BitVec.ofNat 8 n

/-- A number as two bytes, high byte first. -/
def bytes16 (n : Nat) : List Byte := [byteOf n 1, byteOf n 0]

/-- A number as three bytes, high byte first. -/
def bytes24 (n : Nat) : List Byte := [byteOf n 2, byteOf n 1, byteOf n 0]

/-- An index in its range, or none. -/
def index? (n v : Nat) : Option (Fin n) := if h : v < n then some ⟨v, h⟩ else none

/-- The `w` bits of `n` from bit `k` up. -/
def bits (n k w : Nat) : Nat := n / 2 ^ k % 2 ^ w

/-- A Bool as the number of a bit. -/
def bit (b : Bool) (k : Nat) : Nat := if b then 2 ^ k else 0

/-- The operand bytes 3..15 of a frame. -/
def operandBytes (f : Frame) : List Byte :=
  [f.b3, f.b4, f.b5, f.b6, f.b7, f.b8, f.b9, f.b10, f.b11, f.b12, f.b13, f.b14, f.b15]

/-- R161: the first `k` operand bytes are defined and every later one must be 0. -/
def restZero (f : Frame) (k : Nat) : Bool := ((operandBytes f).drop k).all (· == 0)

/-- R161: the low `w` flag bits are defined and every higher one must be 0. -/
def flagsBelow (f : Frame) (w : Nat) : Bool := decide (f.flags.toNat < 2 ^ w)

/-- A request's operands, when the flags and the undefined bytes are as R161 asks and the operand check passes. -/
def require {α : Type} (ok : Bool) (r : Option α) : Option α := if ok then r else none

/-- Every value of a list in its range, or none. -/
def indices? (n : Nat) : List Nat → Option (List (Fin n))
  | [] => some []
  | v :: vs =>
    match index? n v, indices? n vs with
    | some i, some is => some (i :: is)
    | _, _ => none

/-- The frame of sixteen bytes: byte 0 the tag, byte 1 the request code, byte 2 the flags, bytes 3..15 the operands (R138, R161). -/
def frameOfBytes : List Byte → Option Frame
  | [tag, code, flags, b3, b4, b5, b6, b7, b8, b9, b10, b11, b12, b13, b14, b15] =>
    some ⟨tag, code, flags, b3, b4, b5, b6, b7, b8, b9, b10, b11, b12, b13, b14, b15⟩
  | _ => none

/-- The bytes of a frame, in the order in which a link takes them (R138, R161). -/
def frameBytes (f : Frame) : List Byte :=
  [f.tag, f.code, f.flags, f.b3, f.b4, f.b5, f.b6, f.b7, f.b8, f.b9, f.b10, f.b11, f.b12, f.b13, f.b14, f.b15]

/-- A frame with the given tag, code, flags and first operand bytes, the rest 0. -/
def frameOf (tag : Byte) (code flags : Nat) (ops : List Byte) : Frame where
  tag := tag
  code := b8 code
  flags := b8 flags
  b3 := ops.getD 0 0
  b4 := ops.getD 1 0
  b5 := ops.getD 2 0
  b6 := ops.getD 3 0
  b7 := ops.getD 4 0
  b8 := ops.getD 5 0
  b9 := ops.getD 6 0
  b10 := ops.getD 7 0
  b11 := ops.getD 8 0
  b12 := ops.getD 9 0
  b13 := ops.getD 10 0
  b14 := ops.getD 11 0
  b15 := ops.getD 12 0

/-! ## Field codes (R161) -/

/-- The mode codes: 0 OFF, 1 PREFERRED, 2 REQUIRED. -/
def mode? : Nat → Option Mode
  | 0 => some .off
  | 1 => some .preferred
  | 2 => some .required
  | _ => none

/-- The code of a mode. -/
def modeCode : Mode → Nat
  | .off => 0
  | .preferred => 1
  | .required => 2

/-- The scramble class codes: 0 NEVER, 1 ALLOWED, 2 ALWAYS. -/
def scrambleClass? : Nat → Option ScrambleClass
  | 0 => some .never
  | 1 => some .allowed
  | 2 => some .always
  | _ => none

/-- The code of a scramble class. -/
def scrambleClassCode : ScrambleClass → Nat
  | .never => 0
  | .allowed => 1
  | .always => 2

/-- The class byte: bit 3 DIRECTED, bit 4 GROUP, bit 5 TRUNK, bits 6..7 scramble class. DEDUCED: a byte with one of bits
0..2 set is another code value, and so out of range (assumption 5). -/
def classes? (v : Byte) : Option ClassSet :=
  if bits v.toNat 0 3 = 0 then
    (scrambleClass? (bits v.toNat 6 2)).map fun sc =>
      ⟨v.getLsbD 3, v.getLsbD 4, v.getLsbD 5, sc⟩
  else none

/-- The class byte's bits 3..7 of a class. -/
def classBits (c : ClassSet) : Nat :=
  bit c.directed 3 + bit c.group 4 + bit c.trunk 5 + scrambleClassCode c.scramble * 64

/-- The policy codes: 0 ALL, 1 SEQUENTIAL. -/
def policy? : Nat → Option Policy
  | 0 => some .all
  | 1 => some .sequential
  | _ => none

/-- The code of a policy. -/
def policyCode : Policy → Nat
  | .all => 0
  | .sequential => 1

/-! ## Directory requests -/

/-- ENTER: flags bits 0..2 group count, bit 3 home port given; 3..4 entry, 5..7 identity, 8..9 number, 10 class byte,
11 home port, 12..15 group numbers (R161), with the checks of R11 item 1. A home port or group byte that the flags leave
unused is not examined (assumption 6). -/
def parseEnter (f : Frame) : Option EnterArgs :=
  let count := bits f.flags.toNat 0 3
  require (flagsBelow f 4 && decide (count ≤ 4)) <|
    match index? 512 (u16 f.b3 f.b4), classes? f.b10,
      indices? 32 (([f.b12, f.b13, f.b14, f.b15].take count).map BitVec.toNat) with
    | some e, some cl, some gs =>
      let r : EnterArgs :=
        { entry := e, identity := u24 f.b5 f.b6 f.b7, number := u16 f.b8 f.b9, classes := cl,
          home := if f.flags.getLsbD 3 then some f.b11.toFin else none, groups := gs }
      require r.wf (some r)
    | _, _, _ => none

/-- The frame of an ENTER. -/
def encodeEnter (tag : Byte) (r : EnterArgs) : Frame :=
  frameOf tag 1 (r.groups.length + bit r.home.isSome 3)
    (bytes16 r.entry ++ bytes24 r.identity ++ bytes16 r.number ++
      [b8 (classBits r.classes), (r.home.map fun p => b8 p.val).getD 0] ++ r.groups.map fun g => b8 g.val)

/-- AMEND: flags bit 0 change class, bit 1 set home port, bit 2 clear home port, bit 3 change number; 3..4 entry, 5 class
byte, 6 home port, 7..8 number (R161), with the checks of R12 item 1: the home port is not both set and cleared, and an
operand marked for change is in range. The class byte's bits 0..2 are undefined and must be 0 whether or not the class is
marked for change. -/
def parseAmend (f : Frame) : Option AmendArgs :=
  require (flagsBelow f 4 && restZero f 6 && bits f.b5.toNat 0 3 == 0 && !(f.flags.getLsbD 1 && f.flags.getLsbD 2)) <|
    match index? 512 (u16 f.b3 f.b4),
      (if f.flags.getLsbD 0 then (classes? f.b5).map some else some none) with
    | some e, some cl =>
      let r : AmendArgs :=
        { entry := e, classes := cl,
          home := if f.flags.getLsbD 1 then .set f.b6.toFin else if f.flags.getLsbD 2 then .clear else .keep,
          number := if f.flags.getLsbD 3 then some (u16 f.b7 f.b8) else none }
      require r.wf (some r)
    | _, _ => none

/-- The frame of an AMEND. -/
def encodeAmend (tag : Byte) (r : AmendArgs) : Frame :=
  let homeFlags := match r.home with
    | .keep => 0
    | .set _ => 2
    | .clear => 4
  let homeByte : Byte := match r.home with
    | .set p => b8 p
    | _ => 0
  frameOf tag 2 (bit r.classes.isSome 0 + homeFlags + bit r.number.isSome 3)
    (bytes16 r.entry ++ [(r.classes.map fun c => b8 (classBits c)).getD 0, homeByte] ++
      bytes16 (r.number.getD 0))

/-- A request that names one entry and nothing else: 3..4 entry. -/
def parseEntry (f : Frame) : Option EntryIx :=
  require (flagsBelow f 0 && restZero f 2) (index? 512 (u16 f.b3 f.b4))

/-- The frame of a request that names one entry: BAR 3, UNBAR 4, REMOVE 5, READ ENTRY 7, TAKEOVER ENTRY 8. -/
def encodeEntry (tag : Byte) (code : Nat) (e : EntryIx) : Frame := frameOf tag code 0 (bytes16 e)

/-- LOOKUP: flags bits 0..1 are 1 for an identity in 3..5, 2 for a number in 4..5 (R161). For a number, byte 3 is undefined
and must be 0. -/
def parseLookup (f : Frame) : Option LookupKey :=
  require (flagsBelow f 2 && restZero f 3) <|
    match f.flags.toNat with
    | 1 => some (.identity (u24 f.b3 f.b4 f.b5))
    | 2 => require (f.b3 == 0 && (LookupKey.number (u16 f.b4 f.b5)).wf) (some (.number (u16 f.b4 f.b5)))
    | _ => none

/-- The frame of a LOOKUP. -/
def encodeLookup (tag : Byte) : LookupKey → Frame
  | .identity n => frameOf tag 6 1 (bytes24 n)
  | .number n => frameOf tag 6 2 (0 :: bytes16 n)

/-- The entries SET GROUP gives: up to four two-byte fields from byte 7. -/
def groupEntryFields (f : Frame) : List Nat :=
  [u16 f.b7 f.b8, u16 f.b9 f.b10, u16 f.b11 f.b12, u16 f.b13 f.b14]

/-- SET GROUP: flags bits 0..1 form, bits 2..4 entry count; 3 group, 4 policy, 5 cadence, 6 step time, 7..14 entries (R161),
with the checks of R18 item 1. -/
def parseSetGroup (f : Frame) : Option SetGroupArgs :=
  let count := bits f.flags.toNat 2 3
  require (flagsBelow f 5 && restZero f 12 && decide (count ≤ 4)) <|
    match index? 32 f.b3.toNat, indices? 512 ((groupEntryFields f).take count) with
    | some g, some es =>
      match bits f.flags.toNat 0 2 with
      | 0 =>
        match policy? f.b4.toNat, index? 4 f.b5.toNat with
        | some p, some c => some ⟨g, .settings p c f.b6 es⟩
        | _, _ => none
      | 1 => some ⟨g, .replace es⟩
      | 2 => some ⟨g, .append es⟩
      | _ => some ⟨g, .drop es⟩
    | _, _ => none

/-- The frame of a SET GROUP. -/
def encodeSetGroup (tag : Byte) (r : SetGroupArgs) : Frame :=
  let es := r.form.given
  let form : Nat := match r.form with
    | .settings _ _ _ _ => 0
    | .replace _ => 1
    | .append _ => 2
    | .drop _ => 3
  let settings : List Byte := match r.form with
    | .settings p c t _ => [b8 (policyCode p), b8 c, t]
    | _ => [0, 0, 0]
  frameOf tag 9 (form + es.length * 4) (b8 r.group :: settings ++ es.flatMap fun e => bytes16 e.val)

/-- READ GROUP: 3 group, 4 part (R161). -/
def parseReadGroup (f : Frame) : Option ReadGroupArgs :=
  require (flagsBelow f 0 && restZero f 2) <|
    match index? 32 f.b3.toNat, index? 4 f.b4.toNat with
    | some g, some p => some ⟨g, p⟩
    | _, _ => none

/-- The frame of a READ GROUP. -/
def encodeReadGroup (tag : Byte) (r : ReadGroupArgs) : Frame := frameOf tag 10 0 [b8 r.group, b8 r.part]

/-! ## Call requests -/

/-- A slot operand: 255 is out of range (R98). -/
def slot? (v : Byte) : Option SlotIx := index? 255 v.toNat

/-- The 24-bit field of an OFFER in bytes 3..5 (R161). -/
def offerField (f : Frame) : Nat := u24 f.b3 f.b4 f.b5

/-- The target of an OFFER: an entry, or a group in range (R82 item 1). -/
def target? (isGroup : Bool) (v : Nat) : Option Target :=
  if isGroup then (index? 32 v).map .group else (index? 512 v).map .entry

/-- The calling party of an OFFER. With the TRUNK bit set the calling entry and the calling slots must be 0 (R161). -/
def calling? (f : Frame) : Option (Option CallingParty) :=
  if f.flags.getLsbD 0 then
    require (bits (offerField f) 15 9 == 0 && f.b8 == 0 && f.b9 == 0) (some none)
  else
    match index? 512 (bits (offerField f) 15 9), slot? f.b8, slot? f.b9 with
    | some e, some s, some r => some (some ⟨e, s, r⟩)
    | _, _, _ => none

/-- OFFER: flags bit 0 calling party TRUNK, bit 1 target is a group, bit 2 anchor auto, bits 3..4 mode, bit 5 cadence
override given, bit 6 expiry given; 3..5 the 24-bit field with the calling entry in bits 23..15, the target in bits 14..6
and the cadence override in bits 5..4; 6, 7 called slots; 8, 9 calling slots; 10..12 seed; 13..14 anchor; 15 expiry (R161).
DEDUCED: the field's bits 3..0, which the layout does not define, must be 0 (assumption 5). -/
def parseOffer (f : Frame) : Option OfferArgs :=
  require (flagsBelow f 7 && bits (offerField f) 0 4 == 0) <|
    match calling? f, target? (f.flags.getLsbD 1) (bits (offerField f) 6 9), slot? f.b6, slot? f.b7,
      mode? (bits f.flags.toNat 3 2) with
    | some party, some t, some cs, some cr, some m =>
      some { calling := party, target := t, calledSend := cs, calledRecv := cr,
             seed := BitVec.ofNat 24 (u24 f.b10 f.b11 f.b12),
             anchor := if f.flags.getLsbD 2 then none else some (BitVec.ofNat 16 (u16 f.b13 f.b14)),
             mode := m,
             cadence := if f.flags.getLsbD 5 then index? 4 (bits (offerField f) 4 2) else none,
             expiry := if f.flags.getLsbD 6 then some f.b15 else none }
    | _, _, _, _, _ => none

/-- The frame of an OFFER. -/
def encodeOffer (tag : Byte) (r : OfferArgs) : Frame :=
  let isGroup := match r.target with
    | .group _ => true
    | .entry _ => false
  let target : Nat := match r.target with
    | .group g => g
    | .entry e => e
  let caller : Nat := (r.calling.map fun c => c.entry.val).getD 0
  let field := caller * 32768 + target * 64 + (r.cadence.map fun c => c.val).getD 0 * 16
  frameOf tag 16
    (bit r.calling.isNone 0 + bit isGroup 1 + bit r.anchor.isNone 2 + modeCode r.mode * 8 +
      bit r.cadence.isSome 5 + bit r.expiry.isSome 6)
    (bytes24 field ++ [b8 r.calledSend, b8 r.calledRecv, (r.calling.map fun c => b8 c.send.val).getD 0,
      (r.calling.map fun c => b8 c.recv.val).getD 0] ++ bytes24 r.seed.toNat ++
      bytes16 (r.anchor.getD 0).toNat ++ [r.expiry.getD 0])

/-- CONNECT TRUNK: flags bit 0 role CALLED, bit 1 anchor auto, bits 2..3 mode; 3..4 entry, 5 send slot, 6 receive slot,
7..9 seed, 10..11 anchor (R161). -/
def parseTrunk (f : Frame) : Option TrunkArgs :=
  require (flagsBelow f 4 && restZero f 9) <|
    match index? 512 (u16 f.b3 f.b4), slot? f.b5, slot? f.b6, mode? (bits f.flags.toNat 2 2) with
    | some e, some s, some r, some m =>
      some { entry := e, role := if f.flags.getLsbD 0 then .called else .calling, send := s, recv := r,
             seed := BitVec.ofNat 24 (u24 f.b7 f.b8 f.b9),
             anchor := if f.flags.getLsbD 1 then none else some (BitVec.ofNat 16 (u16 f.b10 f.b11)),
             mode := m }
    | _, _, _, _ => none

/-- The frame of a CONNECT TRUNK. -/
def encodeTrunk (tag : Byte) (r : TrunkArgs) : Frame :=
  frameOf tag 17 (bit (r.role == .called) 0 + bit r.anchor.isNone 1 + modeCode r.mode * 4)
    (bytes16 r.entry ++ [b8 r.send, b8 r.recv] ++ bytes24 r.seed.toNat ++ bytes16 (r.anchor.getD 0).toNat)

/-- A call number and a generation in bytes 3 and 4. -/
def callRef? (f : Frame) : Option CallRef := (index? 128 f.b3.toNat).map fun c => ⟨c, f.b4⟩

/-- CONFIRM: 3 call, 4 generation (R161). -/
def parseConfirm (f : Frame) : Option CallRef := require (flagsBelow f 0 && restZero f 2) (callRef? f)

/-- The frame of a CONFIRM. -/
def encodeConfirm (tag : Byte) (r : CallRef) : Frame := frameOf tag 18 0 [b8 r.call, r.generation]

/-- SCRAMBLE: flags bits 0..1 mode; 3 call, 4 generation (R161). -/
def parseScramble (f : Frame) : Option ScrambleArgs :=
  require (flagsBelow f 2 && restZero f 2) <|
    match callRef? f, mode? f.flags.toNat with
    | some c, some m => some ⟨c, m⟩
    | _, _ => none

/-- The frame of a SCRAMBLE. -/
def encodeScramble (tag : Byte) (r : ScrambleArgs) : Frame :=
  frameOf tag 19 (modeCode r.mode) [b8 r.ref.call, r.ref.generation]

/-- RELEASE: 3 call, 4 generation, 5 reason, 0 REQUEST or 1 HIGHWAY (R161). -/
def parseRelease (f : Frame) : Option ReleaseArgs :=
  require (flagsBelow f 0 && restZero f 3 && decide (f.b5.toNat ≤ 1)) <|
    (callRef? f).map fun c => ⟨c, f.b5 == 1⟩

/-- The frame of a RELEASE. -/
def encodeRelease (tag : Byte) (r : ReleaseArgs) : Frame :=
  frameOf tag 20 0 [b8 r.ref.call, r.ref.generation, b8 r.highway.toNat]

/-- READ CALL: 3 call, 4 part (R161). -/
def parseReadCall (f : Frame) : Option ReadCallArgs :=
  require (flagsBelow f 0 && restZero f 2) <|
    match index? 128 f.b3.toNat, index? 12 f.b4.toNat with
    | some c, some p => some ⟨c, p⟩
    | _, _ => none

/-- The frame of a READ CALL. -/
def encodeReadCall (tag : Byte) (r : ReadCallArgs) : Frame := frameOf tag 21 0 [b8 r.call, b8 r.part]

/-! ## Port and line requests -/

/-- LINE ACCESS: flags bit 0 WRITE; 3 bus, 4 module, 5 item, 6..7 value (R161). -/
def parseLine (f : Frame) : Option LineArgs :=
  require (flagsBelow f 1 && restZero f 5) <|
    match index? 4 f.b3.toNat, index? 16 f.b4.toNat, index? 32 f.b5.toNat with
    | some k, some m, some i =>
      some ⟨k, m, i, if f.flags.getLsbD 0 then some (BitVec.ofNat 16 (u16 f.b6 f.b7)) else none⟩
    | _, _, _ => none

/-- The frame of a LINE ACCESS. -/
def encodeLine (tag : Byte) (r : LineArgs) : Frame :=
  frameOf tag 32 (bit r.write.isSome 0) ([b8 r.bus, b8 r.modul, b8 r.item] ++ bytes16 (r.write.getD 0).toNat)

/-- A request that names one port and nothing else: 3 port (R161). A port byte is always in range. -/
def parsePort (f : Frame) : Option PortIx := require (flagsBelow f 0 && restZero f 1) (some f.b3.toFin)

/-- The frame of a request that names one port: HOLD PORT 33, RELEASE HOLD 34, BLOCK PORT 35, UNBLOCK PORT 36,
CLEAR FAULT 37. -/
def encodePort (tag : Byte) (code : Nat) (p : PortIx) : Frame := frameOf tag code 0 [b8 p]

/-! ## Settings requests -/

/-- SET CADENCE: 3 entry, 4..5 on time, 6..7 off time, 8 cycles (R161). -/
def parseCadence (f : Frame) : Option CadenceArgs :=
  require (flagsBelow f 0 && restZero f 6) <|
    (index? 4 f.b3.toNat).map fun i =>
      ⟨i, BitVec.ofNat 16 (u16 f.b4 f.b5), BitVec.ofNat 16 (u16 f.b6 f.b7), f.b8⟩

/-- The frame of a SET CADENCE. -/
def encodeCadence (tag : Byte) (r : CadenceArgs) : Frame :=
  frameOf tag 48 0 ([b8 r.entry] ++ bytes16 r.onTime.toNat ++ bytes16 r.offTime.toNat ++ [r.cycles])

/-- SET SUPERVISION: 3..4 OFFT, 5..6 ONT, 7..8 RTT, 9..10 OCT, 11..12 LEAKT, 13 debounce (R161). -/
def parseSupervision (f : Frame) : Option SupervisionArgs :=
  require (flagsBelow f 0 && restZero f 11) <|
    some ⟨BitVec.ofNat 16 (u16 f.b3 f.b4), BitVec.ofNat 16 (u16 f.b5 f.b6), BitVec.ofNat 16 (u16 f.b7 f.b8),
      BitVec.ofNat 16 (u16 f.b9 f.b10), BitVec.ofNat 16 (u16 f.b11 f.b12), f.b13⟩

/-- The frame of a SET SUPERVISION. -/
def encodeSupervision (tag : Byte) (r : SupervisionArgs) : Frame :=
  frameOf tag 49 0 (bytes16 r.offt.toNat ++ bytes16 r.ont.toNat ++ bytes16 r.rtt.toNat ++
    bytes16 r.oct.toNat ++ bytes16 r.leakt.toNat ++ [r.debounce])

/-- SET FAULT MODE: 3 mode, 0 RETEST or 1 LATCHED; 4..5 interval (R161). -/
def parseFaultMode (f : Frame) : Option FaultModeArgs :=
  require (flagsBelow f 0 && restZero f 3 && decide (f.b3.toNat ≤ 1)) <|
    some ⟨if f.b3 == 1 then .latched else .retest, BitVec.ofNat 16 (u16 f.b4 f.b5)⟩

/-- The code of a fault mode. -/
def faultModeCode : FaultMode → Nat
  | .retest => 0
  | .latched => 1

/-- The frame of a SET FAULT MODE. -/
def encodeFaultMode (tag : Byte) (r : FaultModeArgs) : Frame :=
  frameOf tag 50 0 ([b8 (faultModeCode r.mode)] ++ bytes16 r.interval.toNat)

/-- SET GAIN: 3..4 base, 5..6 step (R161). -/
def parseGain (f : Frame) : Option GainArgs :=
  require (flagsBelow f 0 && restZero f 4) <|
    some ⟨BitVec.ofNat 16 (u16 f.b3 f.b4), BitVec.ofNat 16 (u16 f.b5 f.b6)⟩

/-- The frame of a SET GAIN. -/
def encodeGain (tag : Byte) (r : GainArgs) : Frame :=
  frameOf tag 51 0 (bytes16 r.base.toNat ++ bytes16 r.step.toNat)

/-- SET GAIN TABLE: 3 half, 0 or 1; 4..11 codes (R161). -/
def parseGainTable (f : Frame) : Option GainTableArgs :=
  require (flagsBelow f 0 && restZero f 9 && decide (f.b3.toNat ≤ 1)) <|
    some ⟨f.b3 == 1, [f.b4, f.b5, f.b6, f.b7, f.b8, f.b9, f.b10, f.b11]⟩

/-- The frame of a SET GAIN TABLE. -/
def encodeGainTable (tag : Byte) (r : GainTableArgs) : Frame :=
  frameOf tag 52 0 (b8 r.upper.toNat :: r.codes)

/-- A settings request with one byte: 3 value (R161). -/
def parseValue (f : Frame) : Option Byte := require (flagsBelow f 0 && restZero f 1) (some f.b3)

/-- The frame of a settings request with one byte: SET SWEEP PERIOD 53, SET QUIET CODE 54, SET OFFER DEFAULTS 55. -/
def encodeValue (tag : Byte) (code : Nat) (v : Byte) : Frame := frameOf tag code 0 [v]

/-- A request without operands: TAKEOVER SIDE, REFRESH. Flags or operand bytes that are not all 0 are refused (R151, R153). -/
def parseNone (f : Frame) : Option Unit := require (flagsBelow f 0 && restZero f 0) (some ())

/-- The frame of a request without operands: TAKEOVER SIDE 64, REFRESH 65. -/
def encodeNone (tag : Byte) (code : Nat) : Frame := frameOf tag code 0 []

end Sys2Proof.Machine
end

