-- ==== Sys2Proof/Machine/Layouts.lean ====
section
/-! DEFINITION. The byte layouts of report frames, results and line module items (R162, R163). -/

namespace Sys2Proof.Machine

/-! ## Codes -/

/-- The status codes (R162). -/
def statusCode : Status → Nat
  | .done => 0
  | .noEntry => 1
  | .duplicate => 2
  | .inUse => 3
  | .notHandler => 4
  | .noRoom => 5
  | .badField => 6
  | .noCall => 7
  | .state => 8
  | .clas => 9
  | .noMember => 10
  | .noReply => 11

/-- The last release reason codes: 0 none, then 1..8 in the order of R94's list. -/
def reasonCode : Option ReleaseReason → Nat
  | none => 0
  | some .request => 1
  | some .onHook => 2
  | some .fault => 3
  | some .portLost => 4
  | some .noAnswer => 5
  | some .noMember => 6
  | some .callerGone => 7
  | some .highway => 8

/-- The entry state codes. -/
def entryStateCode (r : Option Entry) : Nat :=
  match r with
  | none => 0
  | some e =>
    match e.status with
    | .entered => 1
    | .bound _ => 2
    | .barred => 3

/-- Side B as 1. -/
def sideBit : Side → Nat
  | .a => 0
  | .b => 1

/-- The path codes. -/
def pathCode : Path → Nat
  | .pending => 0
  | .clear => 1
  | .starting => 2
  | .scrambled => 3

/-- The call state codes. -/
def callStateCode (c : Call) : Nat :=
  match c.body with
  | none => 0
  | some b =>
    match b.phase with
    | .offered _ => 1
    | .provisional => 2
    | .connected => 3
    | .releasing => 4

/-- The service codes. -/
def serviceCode : Service → Nat
  | .absent => 0
  | .active => 1
  | .fault _ => 2
  | .blocked _ => 3

/-- The activity codes. -/
def activityCode : Activity → Nat
  | .idle => 0
  | .originating => 1
  | .ringing => 2
  | .talking => 3
  | .refused _ => 4

/-- The refusal reason codes. -/
def refusalCode : Activity → Nat
  | .refused .unknown => 1
  | .refused .barred => 2
  | .refused .inUse => 3
  | .refused .mismatch => 4
  | _ => 0

/-! ## Blocks -/

/-- The bytes of a frame or result padded with 0 to `n`. -/
def padTo (n : Nat) (bs : List Byte) : List Byte := (bs ++ List.replicate n 0).take n

/-- The groups list as four 5-bit numbers, first group in bits 23..19, as three bytes. -/
def groupsField (gs : List GroupIx) : Nat :=
  let g (i : Nat) : Nat := (gs[i]?.map fun x => x.val).getD 0
  ((g 0 * 32 + g 1) * 32 + g 2) * 32 * 16 + g 3 * 16

/-- The entry block: 13 bytes, all 0 for a VACANT entry (R162). -/
def entryBlock (r : Option Entry) : List Byte :=
  match r with
  | none => List.replicate 13 0
  | some e =>
    [b8 (entryStateCode r + sideBit e.handler * 4 + classBits e.classes)] ++ bytes24 e.identity ++ bytes16 e.number ++
      [b8 (bit e.home.isSome 0 + bit e.boundPort.isSome 1 + bit e.call.isSome 2 + e.groups.length * 8),
       (e.home.map fun p => b8 p.val).getD 0, (e.boundPort.map fun p => b8 p.val).getD 0, (e.call.map fun c => b8 c.val).getD 0] ++
      bytes24 (groupsField e.groups)

/-- The leg block: 4 bytes (R162). -/
def legBlock (x : Role × Leg) : List Byte :=
  [b8 (bit (x.1 == .called) 0 + pathCode x.2.path * 2 + bit x.2.port.isSome 3 + bit x.2.entry.isSome 4),
   (x.2.port.map fun p => b8 p.val).getD 0] ++ bytes16 ((x.2.entry.map fun e => e.val).getD 0)

/-- CALL item bytes 2 and 3: state, last release reason and generation (R162). -/
def callHead (c : Call) : List Byte := [b8 (callStateCode c + reasonCode c.lastReason * 8), c.generation]

/-- CALL item bytes 4 and 5: handling side, kind, mode, degraded, leg count and reserved contexts; 0 while FREE (R162). -/
def callFields (c : Call) : List Byte :=
  match c.body with
  | none => [0, 0]
  | some b =>
    [b8 (sideBit b.handler + bit (b.kind == .trunk) 1 + modeCode b.mode * 4 + bit b.degraded 4 + b.legs.length * 32),
     b8 b.reserved]

/-- The legs of a record, none while FREE. -/
def Call.legs (c : Call) : List (Role × Leg) :=
  match c.body with
  | none => []
  | some b => b.legs

/-- Two-byte list entries `4 * k` to `4 * k + 3`, 0 past the length. -/
def fourEntries (es : List EntryIx) (k : Nat) : List Byte :=
  padTo 8 (((es.drop (4 * k)).take 4).flatMap fun e => bytes16 e.val)

/-! ## Report frames (R160, R162) -/

/-- The event set as the bits of one byte (R162). -/
def eventBits (v : EventSet) : Nat :=
  bit v.offHook 0 + bit v.onHook 1 + bit v.answer 2 + bit v.refused 3 + bit v.fault 4 + bit v.leakage 5 + bit v.moduleLost 6

/-- Bytes 1..11 of a PORT item for side `x` (R160, R162). -/
def portContents (s : State) (x : Side) (p : PortIx) : List Byte :=
  let r := s.port p
  let marked := match r.service with
    | .blocked m => m
    | _ => false
  let inFault := match r.service with
    | .fault _ => true
    | _ => false
  let measuring := match r.service with
    | .fault .measuring => true
    | _ => false
  let phaseOn := match r.ring with
    | some g => g.phaseOn
    | none => false
  [b8 p,
   b8 (serviceCode r.service + bit marked 2 + bit (r.hook == .off) 3 + bit (r.range == .coarse) 4 + bit r.held 5 +
     bit r.faultFlag 6 + bit r.leakageFlag 7),
   b8 (activityCode r.activity + refusalCode r.activity * 8 + bit inFault 6 + bit measuring 7)] ++
  bytes16 (match r.binding with
    | some e => 32768 + e.val
    | none => 0) ++
  [b8 (match r.gainIndex with
    | some g => 128 + g.val
    | none => 0),
   b8 (s.desiredGain p)] ++
  bytes16 r.loopValue ++
  [b8 (bit r.drive.feed 0 + bit r.drive.ring 1 + bit r.ring.isSome 2 + bit phaseOn 3), b8 (eventBits (r.events x))]

/-- The contents of a CALL item from byte 1 (R160, R162). -/
def callContents (s : State) (c : CallIx) : List Byte :=
  let r := s.call c
  [b8 c] ++ callHead r ++ callFields r ++ r.legs.flatMap legBlock

/-- The contents of a HIGHWAY item from byte 1 (R160, R162). -/
def highwayContents (s : State) : List Byte :=
  [b8 (match s.highway.state with
    | .lost => 0
    | .synced => 1)] ++ bytes16 s.highway.count.toNat ++ [b8 s.highway.jumpCount]

/-- The 16 bytes of the report frame that carries an item to side `x`, read from the records as they stand (R159, R162). -/
def reportFrame (s : State) (x : Side) : ReportItem → List Byte
  | .obj (.port p) => padTo 16 (1 :: portContents s x p)
  | .obj (.entry e) => padTo 16 (2 :: (bytes16 e ++ entryBlock (s.entry e)))
  | .obj (.call c) => padTo 16 (3 :: callContents s c)
  | .obj .highway => padTo 16 (4 :: highwayContents s)
  | .response r =>
    padTo 16 ([5, r.tag, b8 (statusCode r.status + bit (s.link x).discarded 7)] ++ r.result)

/-! ## Line module items (R38, R163) -/

/-- The value written to a drive item: feed on in bit 0, ring on in bit 1 (R163). -/
def driveValue (d : Drive) : Word16 := BitVec.ofNat 16 (bit d.feed 0 + bit d.ring 1)

/-- The value written to a gain item: the gain code in bits 0..5 (R163). -/
def gainValue (code : Nat) : Word16 := BitVec.ofNat 16 (code % 64)

/-- The item `j` of line `l` (R38). -/
def lineItem (l : LineIx) (j : Fin 8) : ItemIx := ⟨8 * l.val + j.val, by omega⟩

/-- A transaction on a line bus as the module sees it: module, item, and the value of a WRITE (R37). -/
structure Transaction where
  modul : ModuleIx
  item : ItemIx
  write : Option Word16
  deriving DecidableEq, Repr

/-- R26, R38, R41, R46, R51: the transactions on bus `k` that the command which ends the step in progress answers, in the order in
which they are made; none while the bus is free. Step 3 is the one step of two: it reads the identity low part and then, unless that
read ended NO-REPLY, the high part. -/
def State.transactions (s : State) (k : BusIx) : List Transaction :=
  let b := s.bus k
  match b.direct.bind fun d => if d.started then some (Transaction.mk d.modul d.item d.write) else none with
  | some t => [t]
  | none =>
    match b.sweep with
    | .waiting => []
    | .between _ _ => []
    | .probe m => [⟨m, 31, none⟩]
    | .visit m l .loop =>
      [⟨m, lineItem l (match (s.port (portOf k m l)).range with
        | .fine => 0
        | .coarse => 1), none⟩]
    | .visit m l .identity => [⟨m, lineItem l 4, none⟩, ⟨m, lineItem l 5, none⟩]
    | .visit m l (.drive d) => [⟨m, lineItem l 2, some (driveValue d)⟩]
    | .visit m l (.gain c _) => [⟨m, lineItem l 3, some (gainValue c)⟩]

end Sys2Proof.Machine
end

