-- ==== Sys2Proof/Machine/Queue.lean ====
section
/-! DEFINITION. The request queue and the arbiter (09): request bytes gather into frames, a frame is taken or discarded, key sets and wait lists are formed, one
request at a time is chosen and issued, and the answer of the block that owns it completes it. -/

namespace Sys2Proof.Machine

/-- What a meaning answers. -/
abbrev Result := Host.Outcome State Fault Refusal

/-! ## Key sets (R142) -/

/-- Keys of the values in range. An operand outside its range gives no key (R142). -/
def keysOf {n : Nat} (mk : Fin n → Key) (vs : List Nat) : List Key := vs.filterMap fun v => (index? n v).map mk

/-- The group or entry count of a frame when it is in range. DESIGN CHOICE: with a count of 5 to 7 in the flags, which is answered
BAD-FIELD at issue, R142 does not say whether the bytes that are present still name objects; none of them gives a key
(assumption 30). -/
def countOr0 (n : Nat) : Nat := if n ≤ 4 then n else 0

/-- R142: the key set of a frame, from its code and its operands. A request with an unknown code has none. -/
def keySet (f : Frame) : List Key :=
  let named := keysOf Key.entry [u16 f.b3 f.b4]
  match f.code.toNat with
  | 1 => named ++ keysOf Key.group
      (([f.b12, f.b13, f.b14, f.b15].take (countOr0 (bits f.flags.toNat 0 3))).map BitVec.toNat) ++ [.directory]
  | 2 => named ++ [.directory]
  | 3 => named
  | 4 => named
  | 5 => named ++ [.directory]
  | 6 => [.directory]
  | 7 => named
  | 8 => named
  | 9 => keysOf Key.group [f.b3.toNat] ++
      keysOf Key.entry ((groupEntryFields f).take (countOr0 (bits f.flags.toNat 2 3)))
  | 10 => keysOf Key.group [f.b3.toNat]
  | 16 =>
    (if f.flags.getLsbD 0 then [] else keysOf Key.entry [bits (offerField f) 15 9]) ++
      (if f.flags.getLsbD 1 then keysOf Key.group [bits (offerField f) 6 9]
       else keysOf Key.entry [bits (offerField f) 6 9])
  | 17 => named
  | 18 => keysOf Key.call [f.b3.toNat]
  | 19 => keysOf Key.call [f.b3.toNat]
  | 20 => keysOf Key.call [f.b3.toNat]
  | 21 => keysOf Key.call [f.b3.toNat]
  | 32 => keysOf Key.bus [f.b3.toNat]
  | 33 => [.port f.b3.toFin]
  | 34 => [.port f.b3.toFin]
  | 35 => [.port f.b3.toFin]
  | 36 => [.port f.b3.toFin]
  | 37 => [.port f.b3.toFin]
  | 48 => [.parameters]
  | 49 => [.parameters]
  | 50 => [.parameters]
  | 51 => [.parameters]
  | 52 => [.parameters]
  | 53 => [.parameters]
  | 54 => [.parameters]
  | 55 => [.parameters]
  | 64 => [.all]
  | 65 => [.all]
  | _ => []

/-- R142: two key sets conflict when they share a key, or when either holds ALL. -/
def conflict (a b : List Key) : Bool := a.contains .all || b.contains .all || a.any fun k => b.contains k

/-! ## Gathering and taking a frame (R138, R139, R141, R143) -/

/-- R143: the serials of the older entries a new entry with these keys waits for. -/
def waitList (q : List QueueEntry) (keys : List Key) : List Nat :=
  (q.filter fun e => conflict e.keys keys).map (·.serial)

/-- The queue entry made for a frame of side `x` (R141). -/
def State.newEntry (s : State) (x : Side) (f : Frame) : QueueEntry where
  serial := s.nextSerial
  side := x
  frame := f
  keys := keySet f
  waits := waitList s.queue (keySet f)
  issued := false

/-- R139: a frame of side `x` arrives at the request queue: it is taken as the youngest entry, or it is discarded and `x`'s
discarded flag is set. -/
def State.arrive (s : State) (x : Side) (f : Frame) : State :=
  if s.ready x then { s with queue := s.queue ++ [s.newEntry x f], nextSerial := s.nextSerial + 1 }
  else s.setLink x { s.link x with discarded := true }

/-- R138: side `x`'s link takes one request byte. The byte that brings the count to 16 completes a frame, which arrives at that
event, and the count returns to 0. While LINK RESET is asserted the link ignores the byte. -/
def State.takeByte (x : Side) (s : State) (byte : Byte) : State :=
  if s.resetHeld x then s
  else
    match frameOfBytes ((s.link x).gathered ++ [byte]) with
    | some f => (s.setLink x { s.link x with gathered := [] }).arrive x f
    | none => s.setLink x { s.link x with gathered := (s.link x).gathered ++ [byte] }

/-- REQUEST_FRAME (R138, R139): the bytes come to side `x`'s link one after another. DESIGN CHOICE: the row stands for the bytes
that bring a frame, so that a frame may come in parts (assumption 10). DEDUCED: a frame is never discarded for an asserted LINK
RESET, because none is completed then (assumption 11). -/
def execRequestFrame (x : Side) (bytes : List Byte) (s : State) : Result := .next (bytes.foldl (State.takeByte x) s)

/-! ## The arbiter (R144) -/

/-- The bus a LINE ACCESS names, when the request is one and the bus is in range. -/
def lineAccessBus (f : Frame) : Option BusIx := if f.code = 32#8 then index? 4 f.b3.toNat else none

/-- R144: an entry is issuable when it is READY and, for a LINE ACCESS, when the direct slot of its bus is empty. -/
def State.issuable (s : State) (q : QueueEntry) : Bool :=
  q.state == .ready &&
    match lineAccessBus q.frame with
    | some k => (s.bus k).direct.isNone
    | none => true

/-- A side's oldest issuable entry. -/
def State.candidate (s : State) (x : Side) : Option QueueEntry := s.queue.find? fun q => q.side == x && s.issuable q

/-- R144: what the arbiter issues next: of the side it did not serve last when both have a candidate, else of the side that has
one; none when no entry is issuable. -/
def State.arbiterChoice (s : State) : Option QueueEntry :=
  match s.candidate s.lastServed.other with
  | some q => some q
  | none => s.candidate s.lastServed

/-! ## Issue and completion (R145) -/

/-- The answer of the block that owns a request: a refusal with its status, which changes nothing, or the event with the
result the request's rule names (R10). -/
abbrev Answer := Except Status (Work × List Byte)

/-- R145, R146: a request completes with its answer. A refusal leaves every record as it was and has no result. -/
def State.completeWith (s : State) (q : QueueEntry) : Answer → State
  | .ok (w, result) => w.complete q .done result
  | .error status => (Work.start s (.request q.side)).complete q status []

/-- R144, R145: the issue of a request that completes at its issue. The arbiter's choice is issued when its code is `code`;
otherwise this is not the event that comes about and nothing changes (assumption 1). Operands that cannot be read are
answered BAD-FIELD (R147). -/
def issue {α : Type} (code : Byte) (parse : Frame → Option α) (body : Side → α → State → Answer) (s : State) : Result :=
  .next <|
    match s.arbiterChoice with
    | none => s
    | some q =>
      if q.frame.code = code then
        let s1 := { s with lastServed := q.side }
        s1.completeWith q <|
          match parse q.frame with
          | none => .error .badField
          | some r => body q.side r s1
      else s

/-- R161: the request codes of the first table. -/
def knownCodes : List Nat :=
  [1, 2, 3, 4, 5, 6, 7, 8, 9, 10, 16, 17, 18, 19, 20, 21, 32, 33, 34, 35, 36, 37, 48, 49, 50, 51, 52, 53, 54, 55, 64, 65]

/-- R147: the issue of a request with an unknown code: BAD-FIELD, and nothing changes. -/
def execUnknownRequest (s : State) : Result :=
  .next <|
    match s.arbiterChoice with
    | none => s
    | some q =>
      if knownCodes.contains q.frame.code.toNat then s
      else { s with lastServed := q.side }.completeWith q (.error .badField)

/-- The start of a request's event. -/
def begin_ (x : Side) (s : State) : Work := Work.start s (.request x)

end Sys2Proof.Machine
end

