-- ==== Sys2Proof/Machine/Directory.lean ====
section
/-! DEFINITION. The directory requests (01): ENTER, AMEND, BAR, UNBAR, REMOVE, LOOKUP, READ ENTRY, SET GROUP, READ GROUP. -/

namespace Sys2Proof.Machine

/-! ## Membership (R9) -/

/-- Entry `e` joins group `g`: appended to the member list and `g` to its groups list. -/
def State.joinGroup (g : GroupIx) (s : State) (e : EntryIx) : State :=
  let s1 := s.setGroup g { s.group g with members := (s.group g).members ++ [e] }
  s1.setEntry e ((s1.entry e).map fun r => { r with groups := r.groups ++ [g] })

/-- Entry `e` leaves group `g`: taken out of both lists, which close ranks. -/
def State.leaveGroup (g : GroupIx) (s : State) (e : EntryIx) : State :=
  let s1 := s.setGroup g { s.group g with members := (s.group g).members.filter fun x => x != e }
  s1.setEntry e ((s1.entry e).map fun r => { r with groups := r.groups.filter fun x => x != g })

/-! ## ENTER and AMEND -/

/-- The record ENTER makes (R11). -/
def enteredEntry (x : Side) (r : EnterArgs) : Entry where
  status := .entered
  identity := r.identity
  number := r.number
  classes := r.classes
  handler := x
  home := r.home
  call := none
  groups := r.groups

/-- R11: checks 2 to 6 of ENTER in order; none is passed. -/
def enterRefusal (s : State) (r : EnterArgs) : Option Status :=
  if (s.entry r.entry).isSome then some .inUse
  else if (s.identityMap r.identity).isSome then some .duplicate
  else if (s.numberMap r.number).isSome then some .duplicate
  else if r.home.any fun p => (s.homeOf p).isSome then some .duplicate
  else if r.groups.any fun g => decide (Config.maxMembers ≤ (s.group g).members.length) then some .noRoom
  else none

/-- R11: a VACANT entry becomes ENTERED with the given fields and is appended to the named groups' member lists. -/
def enterBody (x : Side) (r : EnterArgs) (s : State) : Answer :=
  match enterRefusal s r with
  | some st => .error st
  | none =>
    let w := (begin_ x s).onState fun s =>
      r.groups.foldl (fun s g => s.setGroup g { s.group g with members := (s.group g).members ++ [r.entry] })
        (s.setEntry r.entry (some (enteredEntry x r)))
    .ok (w.touch (.entry r.entry), bytes16 r.entry)

/-- ENTER (R11). -/
def execEnter (s : State) : Result := issue 1#8 parseEnter enterBody s

/-- The body of the call in an entry's call field. -/
def State.callBodyOf (s : State) (r : Entry) : Option CallBody := r.call.bind fun c => (s.call c).body

/-- R12 checks 4 and 5: the class change would take TRUNK away in a TRUNK call, or set NEVER in a call whose mode is not OFF. -/
def classChangeInUse (s : State) (r : Entry) (new : ClassSet) : Bool :=
  match s.callBodyOf r with
  | none => false
  | some b => (r.classes.trunk && !new.trunk && b.kind == .trunk) || (new.scramble == .never && b.mode != .off)

/-- The record AMEND leaves (R12). -/
def amended (r : Entry) (a : AmendArgs) : Entry :=
  { r with
    classes := a.classes.getD r.classes
    home := match a.home with
      | .keep => r.home
      | .set p => some p
      | .clear => none
    number := a.number.getD r.number }

/-- R12: the checks of AMEND after BAD-FIELD, in order, on the entry's record; none is passed. -/
def amendRefusal (x : Side) (a : AmendArgs) (s : State) (r : Entry) : Option Status :=
  if r.handler ≠ x then some .notHandler
  else if a.classes.any fun c => classChangeInUse s r c then some .inUse
  else if a.number.any fun n => match s.numberMap n with
      | some e => e != a.entry
      | none => false then some .duplicate
  else if (match a.home with
      | .set p => match s.homeOf p with
        | some e => e != a.entry
        | none => false
      | _ => false) then some .duplicate
  else none

/-- R12: the marked fields of a non-VACANT entry are written; the entry is marked when it changed (R146). -/
def amendBody (x : Side) (a : AmendArgs) (s : State) : Answer :=
  match s.entry a.entry with
  | none => .error .noEntry
  | some r =>
    match amendRefusal x a s r with
    | some st => .error st
    | none =>
      let w := begin_ x s
      let r' := amended r a
      .ok (if r' = r then w else (w.onState fun s => s.setEntry a.entry (some r')).touch (.entry a.entry),
        bytes16 a.entry)

/-- AMEND (R12). -/
def execAmend (s : State) : Result := issue 2#8 parseAmend amendBody s

/-! ## BAR, UNBAR, REMOVE -/

/-- R33: the port of a barred or removed entry is unbound; if it was ORIGINATING it becomes REFUSED and REFUSED is recorded. -/
def Work.unbindPort (w : Work) (q : PortIx) (why : RefusalReason) : Work :=
  let was := (w.st.port q).activity
  let w1 := (w.onPort q fun r =>
    let r := { r with binding := none }
    if was = .originating then r.refuse why else r).touch (.port q)
  if was = .originating then w1.recordEvent q .refused else w1

/-- The unbinding of a BOUND entry's port; other entries have none. -/
def Work.unbindEntryPort (w : Work) (r : Entry) (why : RefusalReason) : Work :=
  match r.boundPort with
  | some q => w.unbindPort q why
  | none => w

/-- R13: the entry becomes BARRED and loses its binding. -/
def barBody (x : Side) (e : EntryIx) (s : State) : Answer :=
  match s.entry e with
  | none => .error .noEntry
  | some r =>
    if r.handler ≠ x then .error .notHandler
    else if r.status = .barred then .error .state
    else if r.call.isSome then .error .inUse
    else
      let w := ((begin_ x s).onState fun s => s.setEntry e (some { r with status := .barred })).touch (.entry e)
      .ok (w.unbindEntryPort r .barred, bytes16 e)

/-- BAR (R13). -/
def execBar (s : State) : Result := issue 3#8 parseEntry barBody s

/-- R14: a BARRED entry becomes ENTERED. -/
def unbarBody (x : Side) (e : EntryIx) (s : State) : Answer :=
  match s.entry e with
  | none => .error .noEntry
  | some r =>
    if r.handler ≠ x then .error .notHandler
    else if r.status ≠ .barred then .error .state
    else
      .ok (((begin_ x s).onState fun s => s.setEntry e (some { r with status := .entered })).touch (.entry e), bytes16 e)

/-- UNBAR (R14). -/
def execUnbar (s : State) : Result := issue 4#8 parseEntry unbarBody s

/-- R15 item 2: entry `e` is taken out of every group's member list. -/
def State.dropFromGroups (s : State) (e : EntryIx) : State :=
  s.setGroups (mapIx (fun _ g => { g with members := g.members.filter fun x => x != e }) s.groups)

/-- A call whose offer, if it is SEQUENTIAL, no longer waits to try entry `e` (R15 item 3). -/
def Call.forget (c : Call) (e : EntryIx) : Call :=
  { c with body := c.body.map fun b =>
      match b.phase with
      | .offered o => { b with phase := .offered { o with remaining := o.remaining.filter fun x => x != e } }
      | _ => b }

/-- R15 item 3: entry `e` is taken out of every remaining list. -/
def State.dropFromRemaining (s : State) (e : EntryIx) : State := s.setCalls (mapIx (fun _ c => c.forget e) s.calls)

/-- R15: the entry's port is unbound, it leaves its groups, every remaining list and both maps, and its fields go. -/
def removeBody (x : Side) (e : EntryIx) (s : State) : Answer :=
  match s.entry e with
  | none => .error .noEntry
  | some r =>
    if r.handler ≠ x then .error .notHandler
    else if r.call.isSome then .error .inUse
    else
      let w := ((begin_ x s).unbindEntryPort r .unknown).touch (.entry e)
      .ok (w.onState fun s => ((s.dropFromGroups e).dropFromRemaining e).setEntry e none, bytes16 e)

/-- REMOVE (R15). -/
def execRemove (s : State) : Result := issue 5#8 parseEntry removeBody s

/-! ## LOOKUP and READ ENTRY -/

/-- R16: an entry found by identity or by number. -/
def lookupBody (x : Side) (k : LookupKey) (s : State) : Answer :=
  let found := match k with
    | .identity n => s.identityMap n
    | .number n => s.numberMap n
  match found with
  | none => .error .noEntry
  | some e => .ok (begin_ x s, bytes16 e ++ [b8 (entryStateCode (s.entry e))])

/-- LOOKUP (R16). -/
def execLookup (s : State) : Result := issue 6#8 parseLookup lookupBody s

/-- R17: an entry's whole record as it stands. -/
def readEntryBody (x : Side) (e : EntryIx) (s : State) : Answer := .ok (begin_ x s, entryBlock (s.entry e))

/-- READ ENTRY (R17). -/
def execReadEntry (s : State) : Result := issue 7#8 parseEntry readEntryBody s

/-! ## Groups -/

/-- Whether entry `e` is already in 4 groups (R9). -/
def State.groupsFull (s : State) (e : EntryIx) : Bool :=
  match s.entry e with
  | some r => decide (Config.maxGroups ≤ r.groups.length)
  | none => false

/-- The entries that APPEND keeps: those up to the sixteenth member (R18). -/
def appendKept (members es : List EntryIx) : List EntryIx := es.take (Config.maxMembers - members.length)

/-- R18 checks 2 to 4, in order, against the member list; none is passed. Check 3 refuses an entry given twice under every form,
SETTINGS among them. -/
def setGroupRefusal (s : State) (g : GroupIx) : GroupForm → Option Status
  | .settings _ _ _ es => if es.Nodup then none else some .duplicate
  | .replace es =>
    if es.any fun e => (s.entry e).isNone then some .noEntry
    else if ¬ es.Nodup then some .duplicate
    else if es.any fun e => !(s.group g).members.contains e && s.groupsFull e then some .noRoom
    else none
  | .append es =>
    if es.any fun e => (s.entry e).isNone then some .noEntry
    else if ¬ es.Nodup || es.any fun e => (s.group g).members.contains e then some .duplicate
    else if (appendKept (s.group g).members es).any fun e => s.groupsFull e then some .noRoom
    else none
  | .drop es =>
    if es.any fun e => !(s.group g).members.contains e then some .noEntry
    else if ¬ es.Nodup then some .duplicate
    else none

/-- R18: the entries that leave the group and those that join it, each in the order in which they do. -/
def membershipChange (members : List EntryIx) : GroupForm → List EntryIx × List EntryIx
  | .settings _ _ _ _ => ([], [])
  | .replace es => (members.filter fun e => !es.contains e, es.filter fun e => !members.contains e)
  | .append es => ([], appendKept members es)
  | .drop es => (es, [])

/-- R18: SETTINGS writes the three settings, the step time clamped to 2..60 s; the other forms change the members. Under
REPLACE the members then stand in the order given. -/
def State.applyGroupForm (s : State) (g : GroupIx) (form : GroupForm) : State :=
  let change := membershipChange (s.group g).members form
  let s1 := change.2.foldl (State.joinGroup g) (change.1.foldl (State.leaveGroup g) s)
  match form with
  | .settings p c t _ => s1.setGroup g { s1.group g with policy := p, cadence := c, stepTime := max 2 (min 60 t.toNat) }
  | .replace es => s1.setGroup g { s1.group g with members := es }
  | .append _ => s1
  | .drop _ => s1

/-- R18: SET GROUP; the objects changed are the entries that joined or left. -/
def setGroupBody (x : Side) (r : SetGroupArgs) (s : State) : Answer :=
  match setGroupRefusal s r.group r.form with
  | some st => .error st
  | none =>
    let change := membershipChange (s.group r.group).members r.form
    let w := (begin_ x s).onState fun s => s.applyGroupForm r.group r.form
    let w := (change.1 ++ change.2).foldl (fun w e => w.touch (.entry e)) w
    .ok (w, [b8 (w.st.group r.group).members.length])

/-- SET GROUP (R18). -/
def execSetGroup (s : State) : Result := issue 9#8 parseSetGroup setGroupBody s

/-- R19: a group's member count, settings and one part of its member list. -/
def readGroupBody (x : Side) (r : ReadGroupArgs) (s : State) : Answer :=
  let g := s.group r.group
  .ok (begin_ x s,
    [b8 g.members.length, b8 (policyCode g.policy + g.cadence.val * 2), b8 g.stepTime] ++ fourEntries g.members r.part)

/-- READ GROUP (R19). -/
def execReadGroup (s : State) : Result := issue 10#8 parseReadGroup readGroupBody s

end Sys2Proof.Machine
end

