-- ==== Sys2Proof/Machine/Calls.lean ====
section
/-! DEFINITION. The call requests (06): CONNECT TRUNK, CONFIRM, SCRAMBLE, RELEASE, READ CALL, and what they share with OFFER. -/

namespace Sys2Proof.Machine

/-! ## Making a call -/

/-- The anchor of a new call: the operand, or for "auto" the multiframe count M held at this moment (R84, R102). -/
def State.anchorFor (s : State) (a : Option Word16) : Word16 := a.getD s.highway.count

/-- R95: record `c` leaves FREE with this body: its generation advances by 1, wrapping from 255 to 0, and its last release
reason is removed. -/
def State.makeCall (s : State) (c : CallIx) (b : CallBody) : State :=
  s.setCall c { generation := (s.call c).generation + 1, lastReason := none, body := some b }

/-- R100: whether a call with this resolved mode and this many legs finds its contexts. -/
def State.hasContexts (s : State) (legs : Nat) : Bool := decide (2 * legs ≤ s.freeContexts.length)

/-- A new leg: path PENDING, with 2 contexts when the call scrambles (R96). -/
def newLeg (port : Option PortIx) (entry : Option EntryIx) (send recv : SlotIx) (withContexts : Bool) : Leg :=
  ⟨port, entry, send, recv, .pending, if withContexts then 2 else 0⟩

/-- The three bytes of a call's result: call, generation, mode (R162). -/
def callResult (c : CallIx) (generation : Byte) (m : Mode) : List Byte := [b8 c, generation, b8 (modeCode m)]

/-! ## CONNECT TRUNK (R102) -/

/-- The body of the call CONNECT TRUNK makes. -/
def trunkBodyFor (x : Side) (r : TrunkArgs) (p : PortIx) (anchor : Word16) (m : Mode) (withContexts : Bool) : CallBody :=
  let leg := newLeg (some p) (some r.entry) r.send r.recv withContexts
  { phase := .provisional, handler := x, kind := .trunk, seed := r.seed, anchor := anchor, mode := m,
    degraded := m == .preferred && !withContexts,
    calling := if r.role = .calling then some leg else none,
    called := if r.role = .called then some leg else none }

/-- R102 check 4: the port that may take the leg, by the role. -/
def trunkPortOk (role : Role) (q : Port) : Bool :=
  q.service == .active &&
    (q.activity == .originating || (role == .called && q.activity == .idle && q.hook == .on))

/-- R102: CONNECT TRUNK makes a PROVISIONAL TRUNK call with one local leg. -/
def connectTrunkBody (x : Side) (r : TrunkArgs) (s : State) : Answer :=
  match s.entry r.entry with
  | none => .error .noEntry
  | some e =>
    if e.handler ≠ x then .error .notHandler
    else
      match e.boundPort with
      | none => .error .state
      | some p =>
        if !trunkPortOk r.role (s.port p) then .error .state
        else
          match s.freeCall with
          | none => .error .noRoom
          | some c =>
            if s.slotHeld r.send then .error .inUse
            else if !e.classes.trunk then .error .clas
            else
              match resolveMode r.mode [e.classes.scramble] with
              | none => .error .clas
              | some m =>
                if m = .required ∧ !s.hasContexts 1 then .error .noRoom
                else
                  let withContexts := m != .off && s.hasContexts 1
                  let b := trunkBodyFor x r p (s.anchorFor r.anchor) m withContexts
                  let w := (((begin_ x s).onState fun s => s.makeCall c b).onState fun s =>
                    if withContexts then s.reserveContexts c b else s).touch (.call c)
                  let w := (w.onPort p fun q => { q with activity := .talking }).touch (.port p)
                  .ok (w.setCallField c r.entry, callResult c (w.st.call c).generation m)

/-- CONNECT TRUNK (R102). -/
def execConnectTrunk (s : State) : Result := issue 17#8 parseTrunk connectTrunkBody s

/-! ## CONFIRM, SCRAMBLE, RELEASE -/

/-- R95: the body of the call a request names by number and generation; none is answered NO-CALL. -/
def State.namedCall (s : State) (r : CallRef) : Option CallBody :=
  if (s.call r.call).generation = r.generation then (s.call r.call).body else none

/-- R103: a PROVISIONAL call becomes CONNECTED. -/
def confirmBody (x : Side) (r : CallRef) (s : State) : Answer :=
  match s.namedCall r with
  | none => .error .noCall
  | some b =>
    if b.handler ≠ x then .error .notHandler
    else if b.phase ≠ .provisional then .error .state
    else
      .ok (((begin_ x s).onCall r.call fun b => { b with phase := .connected }).touch (.call r.call),
        callResult r.call r.generation b.mode)

/-- CONFIRM (R103). -/
def execConfirm (s : State) : Result := issue 18#8 parseConfirm confirmBody s

/-- The scramble classes of the entries of a call's legs (R99). -/
def State.legClasses (s : State) (b : CallBody) : List ScrambleClass :=
  b.legs.filterMap fun l => (l.2.entry.bind s.entry).map fun e => e.classes.scramble

/-- Each leg of a call holding `n` contexts. -/
def CallBody.withLegContexts (b : CallBody) (n : Nat) : CallBody :=
  { b with calling := b.calling.map fun l => { l with contexts := n }, called := b.called.map fun l => { l with contexts := n } }

/-- A call's body written and the call marked, when the body changed (R146). -/
def Work.putBody (w : Work) (c : CallIx) (b b' : CallBody) : Work :=
  if b' = b then w else (w.onCall c fun _ => b').touch (.call c)

/-- R104: the effect of SCRAMBLE once the mode is resolved, by the mode and by whether the call holds contexts. The call is
marked when its record changed (R146). -/
def Work.scrambleTo (w : Work) (c : CallIx) (b : CallBody) (m : Mode) : Work :=
  if m = .off then w.putBody c b { b with mode := .off, degraded := false }
  else if b.reserved ≠ 0 then w.putBody c b { b with mode := m }
  else if w.st.hasContexts b.legs.length then
    let b' := { b.withLegContexts 2 with mode := m, degraded := false }
    (w.onState fun s => s.reserveContexts c b').putBody c b b'
  else w.putBody c b { b with mode := m, degraded := true }

/-- R104: SCRAMBLE changes the scrambling of a CONNECTED call. -/
def scrambleBody (x : Side) (r : ScrambleArgs) (s : State) : Answer :=
  match s.namedCall r.ref with
  | none => .error .noCall
  | some b =>
    if b.handler ≠ x then .error .notHandler
    else if b.phase ≠ .connected then .error .state
    else
      match resolveMode r.mode (s.legClasses b) with
      | none => .error .clas
      | some m =>
        if m = .required ∧ b.reserved = 0 ∧ !s.hasContexts b.legs.length then .error .noRoom
        else .ok ((begin_ x s).scrambleTo r.ref.call b m, callResult r.ref.call r.ref.generation m)

/-- SCRAMBLE (R104). -/
def execScramble (s : State) : Result := issue 19#8 parseScramble scrambleBody s

/-- R109: a live call is released with the reason given; a RELEASING call is left as it is. DESIGN CHOICE: the mode in the result is
the one the call had before the release, also while the highway is LOST, when R108 takes the mode away at the event at which R146
captures the result (assumption 29). -/
def releaseBody (x : Side) (r : ReleaseArgs) (s : State) : Answer :=
  match s.namedCall r.ref with
  | none => .error .noCall
  | some b =>
    .ok ((begin_ x s).releaseCall r.ref.call (if r.highway then .highway else .request),
      callResult r.ref.call r.ref.generation b.mode)

/-- RELEASE (R109). -/
def execRelease (s : State) : Result := issue 20#8 parseRelease releaseBody s

/-! ## READ CALL (R105) -/

/-- Whole seconds from now until a time in ms. -/
def State.secondsUntil (s : State) (t : Nat) : Nat := (t - s.now) / 1000

/-- What part 3 shows of an offer after the state and generation (R105, R162). -/
def offerPart (s : State) (o : Offer) : List Byte :=
  bytes16 (match o.target with
    | .entry e => e.val
    | .group g => 32768 + g.val) ++
  [b8 (policyCode o.policy + o.cadence.val * 2), b8 o.ringing.length, b8 o.remaining.length,
   b8 (s.secondsUntil o.offerExpiry), b8 ((o.stepExpiry.map s.secondsUntil).getD 0)]

/-- What a leg's part shows after the state and generation (R105, R162). -/
def legPart (x : Role × Leg) : List Byte := legBlock x ++ [b8 x.2.send, b8 x.2.recv, b8 x.2.contexts]

/-- Bytes that name the seed and the anchor; 0 while FREE (R105 part 0). -/
def seedAnchor (c : Call) : List Byte :=
  match c.body with
  | none => List.replicate 5 0
  | some b => bytes24 b.seed.toNat ++ bytes16 b.anchor.toNat

/-- R105: the part of a call record that READ CALL names. A part that names what the call does not have carries the state and
generation alone. -/
def callPart (s : State) (c : CallIx) (part : Nat) : List Byte :=
  let r := s.call c
  let offer := r.body.bind CallBody.offer?
  let list (k : Nat) (es : List EntryIx) : List Byte := if 4 * k < es.length then fourEntries es k else []
  match part with
  | 0 => callHead r ++ callFields r ++ seedAnchor r
  | 1 => callHead r ++ (r.legs[0]?.map legPart).getD []
  | 2 => callHead r ++ (r.legs[1]?.map legPart).getD []
  | 3 => callHead r ++ (offer.map (offerPart s)).getD []
  | n =>
    callHead r ++
      match offer with
      | none => []
      | some o => if n < 8 then list (n - 4) o.ringing else list (n - 8) o.remaining

/-- R105: one part of a call record as it stands. DESIGN CHOICE: R105 and R161 give READ CALL a call and a part and no generation, so
it is answered DONE whatever the call's generation; the closing words of R160, by which READ CALL of an old generation is answered
NO-CALL, are not followed (assumption 31). -/
def readCallBody (x : Side) (r : ReadCallArgs) (s : State) : Answer := .ok (begin_ x s, callPart s r.call r.part)

/-- READ CALL (R105). -/
def execReadCall (s : State) : Result := issue 21#8 parseReadCall readCallBody s

end Sys2Proof.Machine
end

