-- ==== Sys2Proof/Machine/Delivery.lean ====
section
/-! DEFINITION. Reports leave (R148, R159): a report frame begins, and a report frame ends. -/

namespace Sys2Proof.Machine

/-- R148: whether a report frame of side `x` may begin: LISTEN asserted, no frame being sent, LINK RESET not held. -/
def Link.mayBegin (l : Link) : Bool := l.listen && l.sending.isNone && !l.linkReset

/-- R159 items 3 and 4: what is emptied or cleared once the item's contents have been read. -/
def State.clearDelivered (s : State) (x : Side) : ReportItem → State
  | .obj (.port p) => s.setPort p ((s.port p).setEvents x .empty)
  | .obj (.entry _) => s
  | .obj (.call _) => s
  | .obj .highway => s
  | .response _ => s.setLink x { s.link x with discarded := false }

/-- R159: a report frame of side `x` begins when it may and the list is not empty: the head leaves the list, the frame's contents
are read, and what delivery empties is emptied. -/
def State.beginFrame (s : State) (x : Side) : State :=
  if (s.link x).mayBegin then
    match (s.link x).report with
    | [] => s
    | item :: rest =>
      let s1 := s.setLink x { s.link x with report := rest, sending := some (reportFrame s x item) }
      s1.clearDelivered x item
  else s

/-- The LISTEN input of side `x` as it now stands. -/
def State.hearListen (s : State) (x : Side) (listen : Bool) : State := s.setLink x { s.link x with listen := listen }

/-- REPORT_DELIVERY (R148, R159): LISTEN of side `x` stands at `listen`; a report frame begins when it may. -/
def execReportDelivery (x : Side) (listen : Bool) (s : State) : Result := .next ((s.hearListen x listen).beginFrame x)

/-- REPORT_FRAME_SENT (R148): the frame being sent to side `x` ends, and LISTEN is judged again at `listen`; the frame that may
begin then begins in its own event, REPORT_DELIVERY (assumption 19). With no frame being sent, none ends. -/
def execReportFrameSent (x : Side) (listen : Bool) (s : State) : Result :=
  .next <|
    if (s.link x).sending.isSome then s.setLink x { s.link x with sending := none, listen := listen }
    else s

end Sys2Proof.Machine
end

