-- ==== Sys2Proof/Machine/Duplex.lean ====
section
/-! DEFINITION. Duplex operation (10): TAKEOVER ENTRY, TAKEOVER SIDE, REFRESH, and the assertion and release of LINK RESET. -/

namespace Sys2Proof.Machine

/-! ## Takeover (R150, R151) -/

/-- R150 item 1: entry `e` is handled by `x`; it is marked when that changes it. -/
def Work.moveEntry (x : Side) (w : Work) (e : EntryIx) : Work :=
  match w.st.entry e with
  | none => w
  | some r => if r.handler = x then w else (w.onEntry e fun r => { r with handler := x }).touch (.entry e)

/-- R150 item 2: call `c`, when it is not FREE, is handled by `x`; it is marked when that changes it. -/
def Work.moveCall (x : Side) (w : Work) (c : CallIx) : Work :=
  match (w.st.call c).body with
  | none => w
  | some b => if b.handler = x then w else (w.onCall c fun b => { b with handler := x }).touch (.call c)

/-- The result of TAKEOVER ENTRY: the entry, and the call with bit 7 set and its generation if there is one (R162). -/
def takeoverResult (s : State) (e : EntryIx) (c : Option CallIx) : List Byte :=
  bytes16 e ++
    match c with
    | none => [0, 0]
    | some c => [b8 (128 + c.val), (s.call c).generation]

/-- R150: an entry, and its call if it has one, are handled by the requester. -/
def takeoverEntryBody (x : Side) (e : EntryIx) (s : State) : Answer :=
  match s.entry e with
  | none => .error .noEntry
  | some r =>
    let w := (begin_ x s).moveEntry x e
    match r.call with
    | none => .ok (w, takeoverResult s e none)
    | some c => .ok (w.moveCall x c, takeoverResult s e (some c))

/-- TAKEOVER ENTRY (R150). -/
def execTakeoverEntry (s : State) : Result := issue 8#8 parseEntry takeoverEntryBody s

/-- Whether an entry that is not VACANT is handled by `x`. -/
def handledBy (x : Side) : Option Entry → Bool
  | some r => r.handler == x
  | none => false

/-- Whether a call that is not FREE is handled by `x`. -/
def Call.handledBy (x : Side) (c : Call) : Bool :=
  match c.body with
  | some b => b.handler == x
  | none => false

/-- Counts of entries and calls as a result: two bytes and one (R162). -/
def countResult (entries calls : Nat) : List Byte := bytes16 entries ++ [b8 calls]

/-- R151: every entry and every call that the other side handles is handled by the requester. -/
def takeoverSideBody (x : Side) (_ : Unit) (s : State) : Answer :=
  let es := allIx (fun _ r => handledBy x.other r) s.entries
  let cs := allIx (fun _ c => c.handledBy x.other) s.calls
  let w := es.foldl (Work.moveEntry x) (begin_ x s)
  .ok (cs.foldl (Work.moveCall x) w, countResult es.length cs.length)

/-- TAKEOVER SIDE (R151). -/
def execTakeoverSide (s : State) : Result := issue 64#8 parseNone takeoverSideBody s

/-! ## REFRESH (R153) -/

/-- R153: what REFRESH marks, in its order: every non-vacant entry, every port, every call that is not FREE, HIGHWAY. -/
def State.everything (s : State) : List Obj :=
  (allIx (fun _ r => r.isSome) s.entries).map Obj.entry ++ (List.finRange 256).map Obj.port ++
    (allIx (fun _ c => c.body.isSome) s.calls).map Obj.call ++ [.highway]

/-- Objects marked in side `x`'s list at the end of the event. -/
def Work.touchAll (w : Work) (x : Side) (os : List Obj) : Work :=
  match x with
  | .a => { w with toA := os ++ w.toA }
  | .b => { w with toB := os ++ w.toB }

/-- R153: everything a report can carry is marked in the requester's own list, after its RESPONSE. -/
def refreshBody (x : Side) (_ : Unit) (s : State) : Answer :=
  .ok ((begin_ x s).touchAll x s.everything,
    countResult (allIx (fun _ r => r.isSome) s.entries).length (allIx (fun _ c => c.body.isSome) s.calls).length)

/-- REFRESH (R153). -/
def execRefresh (s : State) : Result := issue 65#8 parseNone refreshBody s

/-! ## LINK RESET (R154, R155) -/

/-- R154 item 2: a direct slot that answers a discarded request keeps its transaction and answers none. -/
def Bus.orphan (b : Bus) (gone : List Nat) : Bus :=
  { b with direct := b.direct.map fun d =>
      { d with owner := match d.owner with
          | some n => if gone.contains n then none else some n
          | none => none } }

/-- The control link of a side from the assertion of its LINK RESET on (R154 items 3 to 5, R155). LISTEN is an input. -/
def Link.hold (l : Link) : Link :=
  { l with linkReset := true, gathered := [], report := [], discarded := false, sending := none }

/-- R154 item 4: side `x`'s event set of every port is emptied. -/
def State.emptyEvents (s : State) (x : Side) : State := s.setPorts (mapIx (fun _ r => r.setEvents x .empty) s.ports)

/-- LINK_RESET_ASSERT (R154): side `x`'s requests leave the queue without effect or RESPONSE, its list, event sets and discarded
flag are emptied, and the frame being sent to it stops. -/
def execLinkResetAssert (x : Side) (s : State) : Result :=
  .next <|
    let mine (q : QueueEntry) : Bool := q.side == x
    let gone := (s.queue.filter mine).map (·.serial)
    let s1 := (s.setQueue (leaveQueue mine s.queue)).emptyEvents x
    let s2 := s1.setLink x (s1.link x).hold
    { s2 with buses := mapIx (fun _ b => b.orphan gone) s2.buses }

/-- R155: the control link of a fresh side. -/
def Link.fresh (l : Link) : Link := { l with linkReset := false, gathered := [], discarded := false }

/-- LINK_RESET_RELEASE (R155): side `x` is a fresh side. An input that is not asserted is not released. -/
def execLinkResetRelease (x : Side) (s : State) : Result :=
  .next <| if s.resetHeld x then s.setLink x (s.link x).fresh else s

end Sys2Proof.Machine
end

