-- ==== Sys2Proof/Machine/Scrambler.lean ====
section
/-! DEFINITION. The Scrambler (08): the block permutation engine, what a block becomes, and the contexts at a block boundary, at
the loss of the highway and in a frame. -/

namespace Sys2Proof.Machine

/-! ## The block permutation engine (R129 to R132) -/

/-- R129: the block index, M − A mod 65,536. -/
def blockIndex (m anchor : Word16) : Word16 := m - anchor

/-- R131: the start state V + 40,503 × b, mod 2^24. -/
def generatorStart (v : Word24) (b : Word16) : Word24 := v + 40503#24 * b.zeroExtend 24

/-- R131: the next state 4,485 × x + 2,969, mod 2^24. -/
def generatorNext (x : Word24) : Word24 := 4485#24 * x + 2969#24

/-- R131: the draw of a state, its top 8 bits. -/
def drawOf (x : Word24) : Nat := x.toNat / 65536

/-- R131: the first `n` draws after state `x`; the state itself gives none. -/
def draws : Nat → Word24 → List Nat
  | 0, _ => []
  | n + 1, x => drawOf (generatorNext x) :: draws n (generatorNext x)

/-- R132: the segment numbers in order, (0, 1, …, 7). -/
def straightOrder : Vector (Fin 8) 8 := #v[0, 1, 2, 3, 4, 5, 6, 7]

/-- R132 step 2: entry `i` exchanged with entry `r mod (i + 1)`. -/
def exchange (v : Vector (Fin 8) 8) (i : Fin 8) (r : Nat) : Vector (Fin 8) 8 :=
  let j : Fin 8 := ⟨r % (i.val + 1), by have := Nat.mod_lt r (show 0 < i.val + 1 by omega); omega⟩
  (v.set i v[j]).set j v[i]

/-- R132 step 2: the exchanges for i = 7 down to 1 with the draws in turn. -/
def segmentOrder (ds : List Nat) : Vector (Fin 8) 8 :=
  ([7, 6, 5, 4, 3, 2, 1].zip ds).foldl (fun v x => exchange v x.1 x.2) straightOrder

/-- R132: the permutation and inversion mask of block index `b` under variant seed `v`: draws 1 to 7 order the segments and
draw 8 is the mask. -/
def blockPerm (v : Word24) (b : Word16) : BlockPerm :=
  let ds := draws 8 (generatorStart v b)
  ⟨segmentOrder ds, b8 (ds.getD 7 0)⟩

/-! ## What a block becomes (R133, R134) -/

/-- R133: the sign of a sample turned over. -/
def turnSign (v : Byte) : Byte := if 128 ≤ v.toNat then b8 (v.toNat - 128) else b8 (v.toNat + 128)

/-- Segment `k` of a block, its samples 8k to 8k + 7. -/
def segment (block : List Byte) (k : Fin 8) : List Byte := (block.drop (8 * k.val)).take 8

/-- R132 step 4: segment position `i` inverted when it is in the inversion set. -/
def invertIf (p : BlockPerm) (i : Fin 8) (samples : List Byte) : List Byte :=
  if p.mask.getLsbD i then samples.map turnSign else samples

/-- R133: output segment i is input segment P[i], inverted when i is in the inversion set. -/
def scrambleBlock (p : BlockPerm) (block : List Byte) : List Byte :=
  (List.finRange 8).flatMap fun i => invertIf p i (segment block p.order[i])

/-- R134: input segment i, inverted when i is in the inversion set, is placed as output segment P[i]. -/
def descrambleBlock (p : BlockPerm) (block : List Byte) : List Byte :=
  (List.finRange 8).flatMap fun k =>
    match firstIx (fun _ x => x == k) p.order with
    | some i => invertIf p i (segment block i)
    | none => []

/-- R133 to R135: the output block of a direction. -/
def outputBlock (d : Direction) (p : BlockPerm) (block : List Byte) : List Byte :=
  match d with
  | .scramble => scrambleBlock p block
  | .descramble => descrambleBlock p block

/-! ## Contexts at a boundary (R126) -/

/-- R126, R124: the collecting index a context takes for a block opened with count `m`; SCRAMBLE contexts keep none. -/
def ContextRec.newIndex (x : ContextRec) (m : Word16) : Option Word16 :=
  match x.direction with
  | .scramble => none
  | .descramble => some (blockIndex m x.anchor)

/-- R126, R135: a context that becomes or stays RUNNING: what it collected becomes its emitting buffer. A SCRAMBLE context
emits with the index of the block now opened, a DESCRAMBLE context with the index it kept while it collected. -/
def ContextRec.run (x : ContextRec) (m : Word16) (collected : List Byte) (kept : Option Word16) : ContextRec :=
  let b := blockIndex m x.anchor
  let index := match x.direction with
    | .scramble => b
    | .descramble => kept.getD b
  { x with state := .running [] (x.newIndex m) collected (blockPerm x.variant index) }

/-- R126: a context at a boundary that adopts `m`, by the path of its leg after it; none is FREE. -/
def ContextRec.atBoundary (x : ContextRec) (m : Word16) : Path → Option ContextRec
  | .pending => some x
  | .clear => none
  | .starting => some { x with state := .filling [] (x.newIndex m) }
  | .scrambled =>
    match x.state with
    | .reserved => some x
    | .filling collected kept => some (x.run m collected kept)
    | .running collected kept _ _ => some (x.run m collected kept)

/-- The leg a context belongs to (R124). -/
def State.legOf (s : State) (x : ContextRec) : Option Leg := (s.call x.call).body.bind fun b => b.leg x.role

/-- R126: every context moved at a boundary that adopts `m`. -/
def State.moveContexts (s : State) (m : Word16) : State :=
  s.setContexts (mapIx (fun _ x => x.bind fun r => match s.legOf r with
    | some l => r.atBoundary m l.path
    | none => some r) s.contexts)

/-! ## Loss and frames (R128, R135) -/

/-- R128: at the loss of the highway a context discards what it holds and becomes RESERVED. -/
def State.restContexts (s : State) : State :=
  s.setContexts (mapIx (fun _ x => x.map fun r => { r with state := .reserved }) s.contexts)

/-- R124, R135: the sample a context collects in a frame: line in slot p for SCRAMBLE, network in slot m for DESCRAMBLE. -/
def ContextRec.incoming (x : ContextRec) (l : Leg) (fr : FrameIn) : Option Byte :=
  match x.direction with
  | .scramble => l.port.map fun p => fr.line[p]
  | .descramble => some fr.net[l.recv.val]

/-- R135: a FILLING or RUNNING context appends one sample to its collecting buffer. -/
def ContextRec.collect (x : ContextRec) (v : Byte) : ContextRec :=
  match x.state with
  | .reserved => x
  | .filling collected index => { x with state := .filling (collected ++ [v]) index }
  | .running collected index emitting perm => { x with state := .running (collected ++ [v]) index emitting perm }

/-- R135: every context collects its sample of a frame. -/
def State.collectFrame (s : State) (fr : FrameIn) : State :=
  s.setContexts (mapIx (fun _ x => x.map fun r =>
    match (s.legOf r).bind fun l => r.incoming l fr with
    | some v => r.collect v
    | none => r) s.contexts)

/-- The context of a leg and direction (R124). -/
def State.contextOf (s : State) (c : CallIx) (role : Role) (d : Direction) : Option ContextRec :=
  ((indexed s.contexts).findSome? fun x => x.2.bind fun r =>
    if r.call = c ∧ r.role = role ∧ r.direction = d then some r else none)

/-- R135: sample `f` of the output block of a RUNNING context. -/
def ContextRec.emitted (x : ContextRec) (f : BlockPos) : Option Byte :=
  match x.state with
  | .reserved => none
  | .filling _ _ => none
  | .running _ _ emitting perm => (outputBlock x.direction perm emitting)[f.val]?

end Sys2Proof.Machine
end

