-- ==== Sys2Proof/Machine/Highway.lean ====
section
/-! DEFINITION. The Highway Unit and the Slot Map (07): frames taken and bridged, block boundaries and count jumps, loss and
recovery, what each slot carries in a frame, and SET QUIET CODE. -/

namespace Sys2Proof.Machine

/-! ## What a frame carries (R119 to R122) -/

/-- R120, R121: what a live leg sends in frame `f`: on its network send slot, and on the line out slot of its port. -/
def State.legSamples (s : State) (f : BlockPos) (x : CallIx × Role × Leg) : Byte × Byte :=
  let quiet := s.settings.quietCode
  let l := x.2.2
  let heard := match s.highway.prev with
    | some fr => fr.net[l.recv.val]
    | none => quiet
  let spoken := match s.highway.prev, l.port with
    | some fr, some p => fr.line[p]
    | _, _ => quiet
  let emitted (d : Direction) : Byte := ((s.contextOf x.1 x.2.1 d).bind fun r => r.emitted f).getD quiet
  match l.path with
  | .pending => (quiet, heard)
  | .clear => (spoken, heard)
  | .starting => (quiet, quiet)
  | .scrambled => (emitted .scramble, emitted .descramble)

/-- R112, R119: the frame the part sends: each send slot of a live leg is driven with what the leg sends and no other slot is;
each line out slot carries what the live leg of its port supplies, or the quiet code. -/
def State.frameOut (s : State) (f : BlockPos) : FrameOut :=
  let legs := s.liveLegs.map fun x => (x.2.2, s.legSamples f x)
  { net := tabulate fun n => (legs.find? fun x => x.1.send.val == n.val).map fun x => x.2.1
    line := tabulate fun p => ((legs.find? fun x => x.1.port == some p).map fun x => x.2.2).getD s.settings.quietCode }

/-- R114: slot 255 read in frames 0 and 1 of a block; the announced number is high part × 256 + low part. -/
def Highway.readNumber (h : Highway) (f : BlockPos) (fr : FrameIn) : Highway :=
  if f = 0 then { h with high := some fr.net[255] }
  else if f = 1 then
    { h with announced := h.high.map fun hi => BitVec.ofNat 16 (u16 hi fr.net[255]), high := none }
  else h

/-- R114, R119, R135: frame `f` of a block is taken: what the part sends in it, the samples its contexts collect, and the number
in slot 255. -/
def State.takeFrame (s : State) (f : BlockPos) (fr : FrameIn) : State :=
  let out := s.frameOut f
  let h := { s.highway with position := some f, prev := some fr, out := some out }
  (s.collectFrame fr).setHighway (h.readNumber f fr)

/-! ## Block boundaries (R101, R115, R116) -/

/-- R101, R116: a leg of a CONNECTED scrambling call at a boundary; at a count jump and at the regaining boundary it goes to
STARTING whatever its path was. -/
def Leg.advance (restart : Bool) (l : Leg) : Leg :=
  { l with path :=
      if restart then .starting
      else match l.path with
        | .pending => .starting
        | .clear => .starting
        | .starting => .scrambled
        | .scrambled => .scrambled }

/-- R101: a leg of a CONNECTED call that is not scrambling goes CLEAR and holds no context. -/
def Leg.toClear (l : Leg) : Leg := { l with path := .clear, contexts := 0 }

/-- R101, R116: the legs of a call at a boundary. -/
def CallBody.atBoundary (restart : Bool) (b : CallBody) : CallBody :=
  match b.phase with
  | .connected =>
    let move := if b.scrambling then Leg.advance restart else Leg.toClear
    { b with calling := b.calling.map move, called := b.called.map move }
  | .offered _ => b
  | .provisional => b
  | .releasing => b

/-- Whether a call is RELEASING. -/
def Call.isReleasing (c : Call) : Bool :=
  match c.body with
  | some b => !b.isLive
  | none => false

/-- R108: every RELEASING call becomes FREE. -/
def Work.freeReleasing (w : Work) : Work :=
  (allIx (fun _ c => c.isReleasing) w.st.calls).foldl Work.freeCall w

/-- R115 item 3: the boundary handed to the Call Table and then to the Scrambler. -/
def Work.boundary (w : Work) (restart : Bool) (m : Word16) : Work :=
  ((w.freeReleasing).onState fun s => s.setCalls (mapIx (fun _ c =>
    { c with body := c.body.map (CallBody.atBoundary restart) }) s.calls)).onState fun s => s.moveContexts m

/-- R115 item 1: the M a boundary adopts: the announced number, or M + 1 mod 65,536 when none is held. -/
def Highway.nextCount (h : Highway) : Word16 := h.announced.getD (h.count + 1#16)

/-- R115 item 2: whether a boundary is a count jump. `unmarked` says that the sync at position 0 arrived without the mark and
`displaced` that a mark arrived out of place; a bridged sync is neither. -/
def Highway.isJump (h : Highway) (unmarked displaced : Bool) : Bool :=
  h.announced != some (h.count + 1#16) || unmarked || displaced

/-- R116: the jump count increases by 1, stopping at 255, and HIGHWAY is marked. -/
def Work.countJump (w : Work) : Work :=
  (w.onState fun s => s.setHighway
    { s.highway with jumpCount := min Config.maxJumps (s.highway.jumpCount + 1) }).touch .highway

/-- R115, R116: a boundary taken while SYNCED. -/
def Work.syncedBoundary (w : Work) (unmarked displaced : Bool) : Work :=
  let h := w.st.highway
  let jump := h.isJump unmarked displaced
  let w1 := w.onState fun s => s.setHighway { h with count := h.nextCount, announced := none, high := none }
  (if jump then w1.countJump else w1).boundary jump h.nextCount

/-! ## Frame syncs while SYNCED (R114, R115, R117) -/

/-- R114: the block position a frame would have in its turn. -/
def Highway.nextPosition (h : Highway) : BlockPos :=
  match h.position with
  | some f => f + 1
  | none => 0

/-- R114, R115: a frame taken while SYNCED at position `f`, with the missed syncs after it. -/
def Work.syncedFrame (w : Work) (f : BlockPos) (unmarked displaced : Bool) (missed : Nat) (fr : FrameIn) : Work :=
  let w1 := w.onState fun s => s.setHighway { s.highway with missed := missed }
  let w2 := if f = 0 then w1.syncedBoundary unmarked displaced else w1
  w2.onState fun s => s.takeFrame f fr

/-- R117: the highway is lost: no frame position and no number, the RELEASING calls FREE, the contexts at rest (R128), HIGHWAY
marked. M and the jump count stay. -/
def Work.loseHighway (w : Work) : Work :=
  let w1 := w.onState fun s => s.setHighway
    { s.highway with
      state := .lost, position := none, high := none, announced := none, missed := 0, prev := none, out := none }
  (w1.freeReleasing.onState State.restContexts).touch .highway

/-! ## Search and recovery (R118) -/

/-- R118: the search ends, or has not begun: the unit waits for a mark. -/
def Highway.waitForMark (h : Highway) : Highway := { h with position := none, high := none, announced := none }

/-- R118: a frame followed during the search; no sample is passed. -/
def Highway.follow (h : Highway) (f : BlockPos) (fr : FrameIn) : Highway :=
  { h with position := some f }.readNumber f fr

/-- R118: the highway is regained at a mark whose announced number is `m`: a boundary that is no count jump, at which scrambling
legs go to STARTING. Frames flow from this one; there is no frame before it (R120). -/
def Work.regain (w : Work) (m : Word16) (fr : FrameIn) : Work :=
  let w1 := w.onState fun s => s.setHighway
    { s.highway with state := .synced, count := m, announced := none, high := none, missed := 0, prev := none }
  ((w1.touch .highway).boundary true m).onState fun s => s.takeFrame 0 fr

/-- R118: a frame sync while LOST. -/
def Work.lostSync (w : Work) (mark : Bool) (fr : FrameIn) : Work :=
  let h := w.st.highway
  let put (h : Highway) : Work := w.onState fun s => s.setHighway h
  match h.position with
  | none => if mark then put (h.waitForMark.follow 0 fr) else w
  | some _ =>
    let f := h.nextPosition
    if f = 0 then
      match mark, h.announced with
      | true, some m => w.regain m fr
      | _, _ => put h.waitForMark
    else if mark then put h.waitForMark
    else put (h.follow f fr)

/-! ## The commands -/

/-- FRAME_SYNC (R114, R115, R118): an expected frame sync arrives, with or without the multiframe mark. A mark whose position
would not be 0 is out of place and its frame is taken as position 0. -/
def execFrameSync (mark : Bool) (net line : Samples) (s : State) : Result :=
  .next <|
    let w := Work.start s .autonomous
    match s.highway.state with
    | .synced =>
      let f := s.highway.nextPosition
      (if mark then w.syncedFrame 0 false (f != 0) 0 ⟨net, line⟩ else w.syncedFrame f true false 0 ⟨net, line⟩).finish
    | .lost => (w.lostSync mark ⟨net, line⟩).finish

/-- UNEXPECTED_SYNC (R114): a frame sync that the frame timing does not expect is ignored, whether or not it bears a mark. -/
def execUnexpectedSync (_mark : Bool) (s : State) : Result := .next s

/-- MISSED_SYNC (R114, R117, R118): an expected frame sync does not arrive. One is bridged; a second in a row loses the highway;
during a search it ends the search. -/
def execMissedSync (net line : Samples) (s : State) : Result :=
  .next <|
    let w := Work.start s .autonomous
    match s.highway.state with
    | .synced =>
      (if s.highway.missed = 0 then w.syncedFrame s.highway.nextPosition false false 1 ⟨net, line⟩
       else w.loseHighway).finish
    | .lost =>
      match s.highway.position with
      | none => s
      | some _ => s.setHighway s.highway.waitForMark

/-- R122: SET QUIET CODE takes any sample value. -/
def setQuietCodeBody (x : Side) (v : Byte) (s : State) : Answer :=
  .ok ((begin_ x s).onState fun s => s.setSettings { s.settings with quietCode := v }, [v])

/-- SET QUIET CODE (R122). -/
def execSetQuietCode (s : State) : Result := issue 54#8 parseValue setQuietCodeBody s

end Sys2Proof.Machine
end

