-- ==== Sys2Proof/Machine/Offers.lean ====
section
/-! DEFINITION. Ringing and offers (05): OFFER, the ring phases, the step and offer expiries, the answer, SET CADENCE and
SET OFFER DEFAULTS. -/

namespace Sys2Proof.Machine

/-! ## OFFER (R82 to R85) -/

/-- The classes of the local parties of an offer (R99): the calling entry of an INTERNAL offer, the target entry of a
directed one. -/
def State.offerParties (s : State) (r : OfferArgs) : List ScrambleClass :=
  let caller := r.calling.bind fun c => s.entry c.entry
  let target := match r.target with
    | .entry e => s.entry e
    | .group _ => none
  (caller.toList ++ target.toList).map fun e => e.classes.scramble

/-- The kind of an offer (R82). -/
def offerKind (r : OfferArgs) : CallKind := if r.calling.isSome then .internal else .trunk

/-- The local legs of an offer: two of an INTERNAL call, one of a TRUNK call (R96). -/
def offerLegs (r : OfferArgs) : Nat := if r.calling.isSome then 2 else 1

/-- Whether an entry named by an OFFER is VACANT (R82 check 2). -/
def offerNoEntry (s : State) (r : OfferArgs) : Bool :=
  (r.calling.any fun c => (s.entry c.entry).isNone) ||
    match r.target with
    | .entry e => (s.entry e).isNone
    | .group _ => false

/-- Whether entry `e` is handled by the other side. -/
def State.foreign (s : State) (x : Side) (e : EntryIx) : Bool :=
  match s.entry e with
  | some r => r.handler != x
  | none => false

/-- R82 check 3: the calling entry's handling side, or for a TRUNK offer to an entry the target's; a TRUNK offer to a group is
open to both sides. -/
def offerNotHandler (x : Side) (s : State) (r : OfferArgs) : Bool :=
  match r.calling, r.target with
  | some c, _ => s.foreign x c.entry
  | none, .entry e => s.foreign x e
  | none, .group _ => false

/-- R82 check 4: the calling entry is not BOUND, or its port is not ACTIVE with activity ORIGINATING. -/
def offerCallerUnfit (s : State) (r : OfferArgs) : Bool :=
  r.calling.any fun c =>
    match s.boundPort c.entry with
    | some p => !((s.port p).service == .active && (s.port p).activity == .originating)
    | none => true

/-- R82 check 6: a send slot named is held, or the two send slots are the same. -/
def offerSlotInUse (s : State) (r : OfferArgs) : Bool :=
  s.slotHeld r.calledSend || r.calling.any fun c => s.slotHeld c.send || c.send == r.calledSend

/-- R82 check 7: a directed target lacks DIRECTED, or TRUNK for a TRUNK offer. -/
def offerClassRefused (s : State) (r : OfferArgs) : Bool :=
  match r.target with
  | .group _ => false
  | .entry e =>
    match s.entry e with
    | some t => !t.classes.directed || (r.calling.isNone && !t.classes.trunk)
    | none => false

/-- R85: whom an offer rings first and whom it keeps for later, in the target's order. -/
def State.firstRing (s : State) (kind : CallKind) (target : Target) (m : Mode) : List EntryIx × List EntryIx :=
  let ok := s.eligible kind target m
  match target with
  | .entry e => ([e].filter ok, [])
  | .group g =>
    match (s.group g).policy with
    | .all => ((s.group g).members.filter ok, [])
    | .sequential =>
      match (s.group g).members.dropWhile fun e => !ok e with
      | [] => ([], [])
      | e :: rest => ([e], rest)

/-- The policy of an offer: the group's, and ALL for a directed offer (R84 item 5). -/
def State.offerPolicy (s : State) : Target → Policy
  | .entry _ => .all
  | .group g => (s.group g).policy

/-- The cadence of an offer: the override, else the group's, else cadence 0 (R84 item 5). -/
def State.offerCadence (s : State) (r : OfferArgs) : CadenceIx :=
  match r.cadence, r.target with
  | some i, _ => i
  | none, .group g => (s.group g).cadence
  | none, .entry _ => 0

/-- The step time of an offer, the group's (R84 item 5). -/
def State.offerStepTime (s : State) : Target → Nat
  | .entry _ => 0
  | .group g => (s.group g).stepTime

/-- R87: the offer expiry in seconds: the operand clamped to 5..255 s, else the default in force. -/
def State.offerSeconds (s : State) (r : OfferArgs) : Nat :=
  match r.expiry with
  | some v => max 5 v.toNat
  | none => s.settings.offerDefault

/-- R84 item 5: the offer part. The step expiry of a SEQUENTIAL offer is one step time from this event (R85). -/
def State.newOffer (s : State) (r : OfferArgs) (m : Mode) : Offer :=
  let lists := s.firstRing (offerKind r) r.target m
  { target := r.target
    policy := s.offerPolicy r.target
    ringing := lists.1
    remaining := lists.2
    cadence := s.offerCadence r
    stepTime := s.offerStepTime r.target
    offerExpiry := s.now + s.offerSeconds r * 1000
    stepExpiry := if s.offerPolicy r.target = .sequential then some (s.now + s.offerStepTime r.target * 1000) else none }

/-- R84 items 1 to 3: the body of the call an OFFER makes. The called leg has no port, and an entry for a directed offer. -/
def State.newOfferBody (s : State) (x : Side) (r : OfferArgs) (m : Mode) (withContexts : Bool) : CallBody where
  phase := .offered (s.newOffer r m)
  handler := x
  kind := offerKind r
  seed := r.seed
  anchor := s.anchorFor r.anchor
  mode := m
  degraded := m == .preferred && !withContexts
  calling := r.calling.map fun c => newLeg (s.boundPort c.entry) (some c.entry) c.send c.recv withContexts
  called := some (newLeg none
    (match r.target with
      | .entry e => some e
      | .group _ => none) r.calledSend r.calledRecv withContexts)

/-- R84 item 2: the calling port becomes TALKING and the calling entry's call field is set. -/
def Work.seatCaller (w : Work) (c : CallIx) (e : EntryIx) : Work :=
  let w1 := match w.st.boundPort e with
    | some p => (w.onPort p fun q => { q with activity := .talking }).touch (.port p)
    | none => w
  w1.setCallField c e

/-- R82 checks 2 to 7 of OFFER in order; none is passed. -/
def offerRefusal (x : Side) (r : OfferArgs) (s : State) : Option Status :=
  if offerNoEntry s r then some .noEntry
  else if offerNotHandler x s r then some .notHandler
  else if offerCallerUnfit s r then some .state
  else if s.freeCall.isNone then some .noRoom
  else if offerSlotInUse s r then some .inUse
  else if offerClassRefused s r then some .clas
  else none

/-- R84, R85: the effects of an OFFER that has passed its checks, on call record `c` with resolved mode `m`. -/
def Work.makeOffer (w : Work) (x : Side) (r : OfferArgs) (c : CallIx) (m : Mode) : Work :=
  let withContexts := m != .off && w.st.hasContexts (offerLegs r)
  let b := w.st.newOfferBody x r m withContexts
  let w1 := ((w.onState fun s => s.makeCall c b).onState fun s =>
    if withContexts then s.reserveContexts c b else s).touch (.call c)
  let w2 := match r.calling with
    | some party => w1.seatCaller c party.entry
    | none => w1
  match b.offer? with
  | some o => o.ringing.foldl (Work.ringMember c o.cadence) w2
  | none => w2

/-- R82 to R85: OFFER. -/
def offerBody (x : Side) (r : OfferArgs) (s : State) : Answer :=
  match offerRefusal x r s with
  | some st => .error st
  | none =>
    match s.freeCall with
    | none => .error .noRoom
    | some c =>
      match resolveMode r.mode (s.offerParties r) with
      | none => .error .clas
      | some m =>
        if m = .required ∧ !s.hasContexts (offerLegs r) then .error .noRoom
        else if (s.firstRing (offerKind r) r.target m).1.isEmpty then .error .noMember
        else
          let w := (begin_ x s).makeOffer x r c m
          .ok (w, callResult c (w.st.call c).generation m)

/-- OFFER (R84). -/
def execOffer (s : State) : Result := issue 16#8 parseOffer offerBody s

/-! ## Timers -/

/-- R79: what a phase expiry does to the ring state and the desired drive; none is cycles spent. -/
def Port.nextPhase (r : Port) (g : RingState) (cad : Cadence) (now : Nat) : Option Port :=
  let ringOn (left : Nat) : Port :=
    { r with ring := some { g with phaseOn := true, cyclesLeft := left, expiry := now + cad.onTime },
             drive := { r.drive with ring := true } }
  if g.phaseOn then
    some { r with ring := some { g with phaseOn := false, expiry := now + cad.offTime },
                  drive := { r.drive with ring := false } }
  else if g.cyclesLeft = Config.endlessCycles then some (ringOn g.cyclesLeft)
  else if g.cyclesLeft ≤ 1 then none
  else some (ringOn (g.cyclesLeft - 1))

/-- R79, R88: the cycles of port `p` are spent: its ringing stops, it becomes IDLE, and its entry leaves the ringing list. -/
def Work.spendCycles (w : Work) (p : PortIx) : Work :=
  let member := w.st.ringingOn p
  let w1 := (w.onPort p Port.quitRinging).touch (.port p)
  match member with
  | some (c, e) => w1.removeMember c e .cyclesSpent
  | none => w1

/-- RING_PHASE_EXPIRY (R79): the phase expiry of a ringing port falls due. A port with no ring state has none (R80). -/
def execRingPhaseExpiry (p : PortIx) (s : State) : Result :=
  .next <|
    match (s.port p).ring with
    | none => s
    | some g =>
      let s1 := s.reachTime g.expiry
      match (s1.port p).nextPhase g (s1.cadence g.cadence) s1.now with
      | some r => s1.setPort p r
      | none => ((Work.start s1 .autonomous).spendCycles p).finish

/-- R86 item 1: the members of the ringing list of call `c` leave it. -/
def Work.clearRinging (w : Work) (c : CallIx) (o : Offer) : Work :=
  (o.ringing.foldl (Work.stopMember c) (w.setOffer c { o with ringing := [] })).touch (.call c)

/-- The offer of call `c`, while it is OFFERED. -/
def State.offerOf (s : State) (c : CallIx) : Option Offer := (s.call c).body.bind CallBody.offer?

/-- STEP_EXPIRY (R86): the step expiry of a SEQUENTIAL offer falls due. Without one nothing falls due. -/
def execStepExpiry (c : CallIx) (s : State) : Result :=
  .next <|
    match s.offerOf c with
    | none => s
    | some o =>
      match o.stepExpiry with
      | none => s
      | some t => (((Work.start (s.reachTime t) .autonomous).clearRinging c o).takeStep c).finish

/-- OFFER_EXPIRY (R87): the offer expiry falls due and the call is released NO-ANSWER. Without an offer nothing falls due. -/
def execOfferExpiry (c : CallIx) (s : State) : Result :=
  .next <|
    match s.offerOf c with
    | none => s
    | some o => ((Work.start (s.reachTime o.offerExpiry) .autonomous).releaseCall c .noAnswer).finish

/-! ## The answer (R90, R91) -/

/-- R90: the identity fits entry `e` on port `p`: it is `e`'s, or it is 0 and `e` names `p` as its home port. -/
def identityFits (r : Entry) (p : PortIx) (identity : Nat) : Bool :=
  identity == r.identity || (identity == 0 && r.home == some p)

/-- R90: an answer whose identity does not fit: the port is REFUSED MISMATCH, its ringing stops and `e` leaves the ringing
list. -/
def Work.answerMismatch (w : Work) (p : PortIx) (c : CallIx) (e : EntryIx) : Work :=
  let w1 := (w.onPort p fun r => { (r.stopRing.refuse .mismatch) with hook := .off, pendingCount := 0 }).touch (.port p)
  let w2 := w1.removeMember c e .mismatch
  (w2.recordEvent p .offHook).recordEvent p .refused

/-- R91: the call of an offer once port `p` and entry `e` have answered. -/
def CallBody.answered (b : CallBody) (p : PortIx) (e : EntryIx) : CallBody :=
  { b with
    phase := .connected
    called := b.called.map fun l => { l with port := some p, entry := some (l.entry.getD e) } }

/-- R91: the answer of entry `e` on port `p` is taken: the called leg is filled, all ringing stops, the offer goes and the call
is CONNECTED. -/
def Work.answerFits (w : Work) (p : PortIx) (c : CallIx) (e : EntryIx) (o : Offer) : Work :=
  let w1 := (w.onCall c fun b => b.answered p e).touch (.call c)
  let w2 := (w1.onPort p fun r => { r.stopRing with
      activity := .talking, hook := .off, pendingCount := 0,
      gainIndex := some (gainIndexOf w.st.settings r.loopValue) }).touch (.port p)
  let w3 := (o.ringing.filter fun m => m != e).foldl (Work.stopMember c) w2
  w3.recordEvent p .answer

/-- R27, R90, R91: an off-hook accepted on RINGING port `p`. -/
def Work.answer (w : Work) (p : PortIx) (identity : Nat) : Work :=
  match w.st.ringingOn p with
  | none => w
  | some (c, e) =>
    match w.st.entry e, w.st.offerOf c with
    | some r, some o => if identityFits r p identity then w.answerFits p c e o else w.answerMismatch p c e
    | _, _ => w

/-! ## Settings -/

/-- R77: a time rounded down to a multiple of 50 ms and then clamped to 50..5,000 ms. -/
def cadenceTime (t : Nat) : Nat := max 50 (min 5000 (t / 50 * 50))

/-- R77: SET CADENCE writes one entry of the cadence table. -/
def setCadenceBody (x : Side) (r : CadenceArgs) (s : State) : Answer :=
  let cad : Cadence := ⟨cadenceTime r.onTime.toNat, cadenceTime r.offTime.toNat, max 1 r.cycles.toNat⟩
  .ok ((begin_ x s).onState fun s => s.setCadence r.entry cad,
    [b8 r.entry] ++ bytes16 cad.onTime ++ bytes16 cad.offTime ++ [b8 cad.cycles])

/-- SET CADENCE (R77). -/
def execSetCadence (s : State) : Result := issue 48#8 parseCadence setCadenceBody s

/-- R87: SET OFFER DEFAULTS writes the default offer expiry, clamped to 5..255 s. -/
def setOfferDefaultsBody (x : Side) (v : Byte) (s : State) : Answer :=
  let d := max 5 v.toNat
  .ok ((begin_ x s).onState fun s => s.setSettings { s.settings with offerDefault := d }, [b8 d])

/-- SET OFFER DEFAULTS (R87). -/
def execSetOfferDefaults (s : State) : Result := issue 55#8 parseValue setOfferDefaultsBody s

end Sys2Proof.Machine
end

