-- ==== Sys2Proof/Machine/Admission.lean ====
section
/-! DEFINITION. Admission (02): the decision at an off-hook accepted on an ACTIVE, IDLE port, and the acceptance of an off-hook
whatever the port's activity (R27). -/

namespace Sys2Proof.Machine

/-- The outcomes of the admission decision (R28, R29): bind the port to an entry, moving its binding when it is bound
elsewhere; keep the port's binding; refuse. -/
inductive Decision where
  | bind (e : EntryIx)
  | keep
  | refuse (why : RefusalReason)
  deriving DecidableEq, Repr

/-- R28: identity 0 on port `p` is resolved through the home ports. An analog handset never roams. -/
def decideHome (s : State) (p : PortIx) : Decision :=
  match s.homeOf p with
  | none => .refuse .unknown
  | some e =>
    match (s.entry e).map Entry.status with
    | none => .refuse .unknown
    | some .entered => .bind e
    | some .barred => .refuse .barred
    | some (.bound q) => if q = p then .keep else .refuse .inUse

/-- R29: any other identity is resolved through the identity map. An entry bound to a port that is IDLE with hook ON roams. DESIGN
CHOICE: an entry whose old port another handset has just bound to an entry of its own is ENTERED by R30 item 1, so it binds here as R29
says of an ENTERED entry, although R34's row for an off-hook of another handset on the old port says REFUSED IN-USE (assumption 32). -/
def decideIdentity (s : State) (p : PortIx) (identity : Nat) : Decision :=
  match s.identityMap identity with
  | none => .refuse .unknown
  | some e =>
    match (s.entry e).map Entry.status with
    | none => .refuse .unknown
    | some .entered => .bind e
    | some .barred => .refuse .barred
    | some (.bound q) =>
      if q = p then .keep
      else if (s.port q).activity = .idle ∧ (s.port q).hook = .on then .bind e
      else .refuse .inUse

/-- The admission decision on port `p` (R28, R29). -/
def decideAdmission (s : State) (p : PortIx) (identity : Nat) : Decision :=
  if identity = 0 then decideHome s p else decideIdentity s p identity

/-- Entry `f` loses its binding and becomes ENTERED (R30 item 1, R42 item 2). -/
def Work.unbindEntry (w : Work) (f : EntryIx) : Work :=
  (w.onEntry f fun r => { r with status := .entered }).touch (.entry f)

/-- R30 item 1: an entry other than `e` that port `p` was bound to loses its binding. -/
def Work.displace (w : Work) (p : PortIx) (e : EntryIx) : Work :=
  match (w.st.port p).binding with
  | some f => if f = e then w else w.unbindEntry f
  | none => w

/-- R30 item 2: the port other than `p` that `e` was bound to loses its binding. -/
def Work.roamFrom (w : Work) (p : PortIx) (e : EntryIx) : Work :=
  match w.st.boundPort e with
  | some q => if q = p then w else (w.onPort q fun r => { r with binding := none }).touch (.port q)
  | none => w

/-- R30 item 3: port `p`'s binding becomes `e`, and `e` becomes BOUND with bound port `p`. -/
def Work.bindTo (w : Work) (p : PortIx) (e : EntryIx) : Work :=
  ((w.onPort p fun r => { r with binding := some e }).onEntry e fun r => { r with status := .bound p }).touch (.entry e)

/-- R30 items 4 and 5: port `p` becomes ORIGINATING with a gain index from the loop value of this visit (R72). -/
def Work.originate (w : Work) (p : PortIx) : Work :=
  w.onPort p fun r =>
    { r with activity := .originating, gainIndex := some (gainIndexOf w.st.settings r.loopValue) }

/-- What a decision does to port `p` (R30, R31). -/
def Work.takeDecision (w : Work) (p : PortIx) : Decision → Work
  | .bind e => (((w.displace p e).roamFrom p e).bindTo p e).originate p
  | .keep => w.originate p
  | .refuse why => w.onPort p fun r => r.refuse why

/-- R32: the events recorded at the port: OFF-HOOK, and REFUSED when the port was refused. -/
def Work.recordAdmission (w : Work) (p : PortIx) : Decision → Work
  | .refuse _ => (w.recordEvent p .offHook).recordEvent p .refused
  | .bind _ => w.recordEvent p .offHook
  | .keep => w.recordEvent p .offHook

/-- The hook of port `p` becomes OFF and the pending-count returns to 0 (R26); PORT p is marked. -/
def Work.hookOff (w : Work) (p : PortIx) : Work :=
  (w.onPort p fun r => { r with hook := .off, pendingCount := 0 }).touch (.port p)

/-- R27: an off-hook accepted on port `p` with the identity read at this visit, by the port's service and activity. On a port
that is not ACTIVE it is not acted on. -/
def Work.acceptOffHook (w : Work) (p : PortIx) (identity : Nat) : Work :=
  let r := w.st.port p
  if r.service = .active then
    match r.activity with
    | .idle =>
      let d := decideAdmission w.st p identity
      ((w.hookOff p).takeDecision p d).recordAdmission p d
    | .ringing => w.answer p identity
    | _ => (w.hookOff p).recordEvent p .offHook
  else w

end Sys2Proof.Machine
end

