-- ==== Sys2Proof/Machine/Supervision.lean ====
section
/-! DEFINITION. Loop supervision (04): what step 2 of a visit judges, the fault phases, and the supervision requests. -/

namespace Sys2Proof.Machine

/-! ## Loop value and range (R59, R60) -/

/-- R38: a reading above 4,095 is taken as 4,095. -/
def clipReading (reading : Word16) : Nat := min reading.toNat Config.maxReading

/-- R59: the loop value of a reading in a range. -/
def loopValueOf (range : Range) (reading : Nat) : Nat :=
  match range with
  | .fine => reading
  | .coarse => reading * Config.coarseStep

/-- R60: the range of the port's next visit. -/
def nextRange (range : Range) (reading : Nat) : Range :=
  match range with
  | .fine => if Config.fineUp ≤ reading then .coarse else .fine
  | .coarse => if reading < Config.coarseDown then .fine else .coarse

/-- R59, R60: the loop value is formed and the next range is chosen. -/
def Port.takeReading (r : Port) (reading : Nat) : Port :=
  { r with loopValue := loopValueOf r.range reading, range := nextRange r.range reading }

/-! ## Over-current (R66) -/

/-- R70: the retest expiry of a port that becomes WAITING at `now`. -/
def retestFrom (t : Settings) (now : Nat) : Option Nat :=
  match t.faultMode with
  | .retest => some (now + t.retestInterval)
  | .latched => none

/-- R66: port `p` enters FAULT. -/
def Work.enterFault (w : Work) (p : PortIx) : Work :=
  let member := w.st.ringingOn p
  let phase := FaultPhase.waiting (retestFrom w.st.settings w.st.now)
  let w1 := (w.onPort p fun r => r.leaveActive (.fault phase)).dropPort p member .fault
  let w2 := (w1.onPort p fun r =>
    { r with drive := ⟨false, false⟩, pendingCount := 0, overRun := 0, leakRun := 0, faultFlag := true }).touch (.port p)
  w2.recordEvent p .fault

/-! ## Hook (R62 to R64) -/

/-- R64 item 3: what an accepted on-hook does to the call of a TALKING port: CALLER-GONE for the calling party of an OFFERED
call, ON-HOOK for a party of a PROVISIONAL or CONNECTED one. -/
def Work.hangUp (w : Work) (p : PortIx) : Work :=
  match w.st.callOfPort p with
  | none => w
  | some c => w.releaseCall c (if (w.st.offerOf c).isSome then .callerGone else .onHook)

/-- R64: an on-hook is accepted on port `p`. -/
def Work.acceptOnHook (w : Work) (p : PortIx) : Work :=
  let was := (w.st.port p).activity
  let w1 := (w.onPort p fun r => { r with hook := .on, pendingCount := 0, gainIndex := none }).touch (.port p)
  let w2 := match was with
    | .originating => w1.onPort p Port.becomeIdle
    | .refused _ => w1.onPort p Port.becomeIdle
    | .talking => w1.hangUp p
    | .idle => w1
    | .ringing => w1
  w2.recordEvent p .onHook

/-- R63: the pending-count after a hook judgement. -/
def Port.nextPending (r : Port) (t : Settings) : Nat :=
  if r.counts t r.loopValue then min Config.maxPending (r.pendingCount + 1) else 0

/-- R62, R63: the hook judgement of port `p` on its loop value. The second part says that an off-hook has reached the point of
acceptance, so that step 3 follows. -/
def Work.judgeHook (w : Work) (p : PortIx) : Work × Bool :=
  let r := w.st.port p
  let t := w.st.settings
  let n := r.nextPending t
  let w1 := w.onPort p fun r => { r with pendingCount := n }
  if r.counts t r.loopValue && decide (r.visitsNeeded t ≤ n) then
    match r.hook with
    | .off => (w1.acceptOnHook p, false)
    | .on => (w1, true)
  else (w1, false)

/-! ## Leakage (R71) -/

/-- R71: the leakage judgement of port `p` on its loop value and its hook as it stands. -/
def Work.judgeLeakage (w : Work) (p : PortIx) : Work :=
  let r := w.st.port p
  let t := w.st.settings
  if r.loopValue < t.leakt then
    let w1 := w.onPort p fun r => { r with leakRun := 0, leakageFlag := false }
    if r.leakageFlag then w1.touch (.port p) else w1
  else if r.hook = .on ∧ r.ringJudged = false ∧ r.loopValue + 1 ≤ t.offt then
    let n := min Config.leakageVisits (r.leakRun + 1)
    let w1 := w.onPort p fun r => { r with leakRun := n }
    if n = Config.leakageVisits ∧ r.leakageFlag = false then
      ((w1.onPort p fun r => { r with leakageFlag := true }).recordEvent p .leakage).touch (.port p)
    else w1
  else w.onPort p fun r => { r with leakRun := 0 }

/-! ## Judgement by service (R61) -/

/-- R61, R66: the judgement of an ACTIVE port once its loop value is formed: over-current, then hook, then leakage. The second
part says that step 3 follows. -/
def Work.judgeActive (w : Work) (p : PortIx) : Work × Bool :=
  let r := w.st.port p
  let run := if w.st.settings.oct ≤ r.loopValue then r.overRun + 1 else 0
  let w1 := w.onPort p fun r => { r with overRun := run }
  if Config.overCurrentVisits ≤ run then (w1.enterFault p, false)
  else
    let j := w1.judgeHook p
    (j.1.judgeLeakage p, j.2)

/-- R68: the measurement passes: the port is ACTIVE again with its hook re-learned, and the fault flag stays set. -/
def Port.recover (r : Port) (t : Settings) : Port :=
  { r.becomeIdle with
    service := .active, hook := relearned t r.loopValue, pendingCount := 0, overRun := 0, leakRun := 0,
    drive := ⟨true, false⟩ }

/-- R67, R68: the measurement fails: the port is WAITING again with feed off and its fault flag set. -/
def Port.failMeasurement (r : Port) (t : Settings) (now : Nat) : Port :=
  { r with service := .fault (.waiting (retestFrom t now)), drive := ⟨false, false⟩, faultFlag := true }

/-- R68: the fault measurement of a MEASURING port, on a reading that qualifies. -/
def Work.measure (w : Work) (p : PortIx) : Work :=
  let t := w.st.settings
  if (w.st.port p).loopValue < t.oct then (w.onPort p fun r => r.recover t).touch (.port p)
  else w.onPort p fun r => r.failMeasurement t w.st.now

/-- R55: a BLOCKED port with the unblock mark is brought back at its first qualifying visit. -/
def Port.unblock (r : Port) (t : Settings) : Port :=
  { r.becomeIdle with service := .active, hook := relearned t r.loopValue, pendingCount := 0 }

/-- R61: step 2 of a visit of port `p` on a reading, by the port's service as it stands. The second part says that step 3
follows. Whether the reading qualifies, and whether it switches the range from FINE to COARSE, is asked of the port as the
reading found it (R55, R68). -/
def Work.judge (w : Work) (p : PortIx) (reading : Nat) : Work × Bool :=
  let r := w.st.port p
  let w1 := w.onPort p fun r => r.takeReading reading
  match r.service with
  | .active => w1.judgeActive p
  | .fault .measuring =>
    if r.fed && !(r.range == .fine && nextRange r.range reading == .coarse) then (w1.measure p, false) else (w1, false)
  | .fault (.waiting _) => (w1, false)
  | .blocked true =>
    if r.fed then ((w1.onPort p fun q => q.unblock w.st.settings).touch (.port p), false) else (w1, false)
  | .blocked false => (w1, false)
  | .absent => (w1, false)

/-! ## The retest timer and CLEAR FAULT -/

/-- R67: a WAITING port enters MEASURING with feed on and ring off. -/
def Port.startMeasuring (r : Port) : Port := { r with service := .fault .measuring, drive := ⟨true, false⟩ }

/-- RETEST_EXPIRY (R67): the retest expiry of a WAITING port falls due. Without one nothing falls due. -/
def execRetestExpiry (p : PortIx) (s : State) : Result :=
  .next <|
    match (s.port p).service with
    | .fault (.waiting (some t)) => let s1 := s.reachTime t; s1.setPort p (s1.port p).startMeasuring
    | _ => s

/-- R69: the port CLEAR FAULT leaves; both flags are cleared, and a WAITING port enters MEASURING. -/
def Port.clearFault (r : Port) : Port :=
  match r.service with
  | .fault (.waiting _) => { r.startMeasuring with faultFlag := false, leakageFlag := false, leakRun := 0 }
  | .fault .measuring => { r with faultFlag := false, leakageFlag := false }
  | _ => { r with faultFlag := false, leakageFlag := false, leakRun := 0 }

/-- R69: whether CLEAR FAULT clears a flag or changes the fault phase, so that the port is marked. -/
def Port.clearFaultMarks (r : Port) : Bool :=
  r.faultFlag || r.leakageFlag ||
    match r.service with
    | .fault (.waiting _) => true
    | _ => false

/-- R69: CLEAR FAULT; an ABSENT port is answered STATE. -/
def clearFaultBody (x : Side) (p : PortIx) (s : State) : Answer :=
  if (s.port p).service = .absent then .error .state
  else
    let w := (begin_ x s).onPort p Port.clearFault
    .ok (if (s.port p).clearFaultMarks then w.touch (.port p) else w, [])

/-- CLEAR FAULT (R69). -/
def execClearFault (s : State) : Result := issue 37#8 parsePort clearFaultBody s

/-! ## Settings requests -/

/-- A value clamped to lo..hi. -/
def clamp (lo hi v : Nat) : Nat := max lo (min hi v)

/-- R74: the six values clamped in order, each by the values already taken. -/
def clampSupervision (t : Settings) (r : SupervisionArgs) : Settings :=
  let offt := clamp 1 32759 r.offt.toNat
  let ont := clamp 0 (offt - 1) r.ont.toNat
  let rtt := clamp offt 32759 r.rtt.toNat
  let oct := clamp (rtt + 1) 32760 r.oct.toNat
  { t with offt := offt, ont := ont, rtt := rtt, oct := oct, leakt := clamp 0 32760 r.leakt.toNat,
           debounce := clamp 1 8 r.debounce.toNat }

/-- R74: SET SUPERVISION writes the five thresholds and the debounce value. -/
def setSupervisionBody (x : Side) (r : SupervisionArgs) (s : State) : Answer :=
  let t := clampSupervision s.settings r
  .ok ((begin_ x s).onState fun s => s.setSettings t,
    bytes16 t.offt ++ bytes16 t.ont ++ bytes16 t.rtt ++ bytes16 t.oct ++ bytes16 t.leakt ++ [b8 t.debounce])

/-- SET SUPERVISION (R74). -/
def execSetSupervision (s : State) : Result := issue 49#8 parseSupervision setSupervisionBody s

/-- R70: a port in WAITING under a mode and interval that have just been set; a port whose mode is the same keeps its expiry. -/
def Port.applyFaultMode (r : Port) (old new : FaultMode) (due : Nat) : Port :=
  match r.service with
  | .fault (.waiting _) =>
    match old, new with
    | .retest, .latched => { r with service := .fault (.waiting none) }
    | .latched, .retest => { r with service := .fault (.waiting (some due)) }
    | _, _ => r
  | _ => r

/-- R70: SET FAULT MODE writes the mode and the interval, clamped to 100..5,000 ms, and applies the mode to every port in
FAULT. -/
def setFaultModeBody (x : Side) (r : FaultModeArgs) (s : State) : Answer :=
  let interval := clamp 100 5000 r.interval.toNat
  let w := (begin_ x s).onState fun s =>
    (s.setPorts (mapIx (fun _ q => q.applyFaultMode s.settings.faultMode r.mode (s.now + interval)) s.ports)).setSettings
      { s.settings with faultMode := r.mode, retestInterval := interval }
  .ok (w, [b8 (faultModeCode r.mode)] ++ bytes16 interval)

/-- SET FAULT MODE (R70). -/
def execSetFaultMode (s : State) : Result := issue 50#8 parseFaultMode setFaultModeBody s

/-- R73: SET GAIN writes the gain base, clamped to 0..32,760, and the gain step, clamped to 1..4,000. -/
def setGainBody (x : Side) (r : GainArgs) (s : State) : Answer :=
  let base := clamp 0 32760 r.base.toNat
  let step := clamp 1 4000 r.step.toNat
  .ok ((begin_ x s).onState fun s => s.setSettings { s.settings with gainBase := base, gainStep := step },
    bytes16 base ++ bytes16 step)

/-- SET GAIN (R73). -/
def execSetGain (s : State) : Result := issue 51#8 parseGain setGainBody s

/-- R73: the gain table with one half replaced by eight codes, each clamped to 63. -/
def writeGainHalf (table : Vector Nat 16) (r : GainTableArgs) : Vector Nat 16 :=
  let start := if r.upper then 8 else 0
  mapIx (fun i v =>
    if start ≤ i.val ∧ i.val < start + 8 then
      match r.codes[i.val - start]? with
      | some code => min Config.maxGainCode code.toNat
      | none => v
    else v) table

/-- R73: SET GAIN TABLE writes half of the gain table. The desired gain codes follow (`State.desiredGain`). -/
def setGainTableBody (x : Side) (r : GainTableArgs) (s : State) : Answer :=
  .ok ((begin_ x s).onState fun s =>
      s.setSettings { s.settings with gainTable := writeGainHalf s.settings.gainTable r },
    b8 r.upper.toNat :: r.codes.map fun code => b8 (min Config.maxGainCode code.toNat))

/-- SET GAIN TABLE (R73). -/
def execSetGainTable (s : State) : Result := issue 52#8 parseGainTable setGainTableBody s

end Sys2Proof.Machine
end

