-- ==== Sys2Proof/Machine/Lines.lean ====
section
/-! DEFINITION. Line buses and line modules (03): the sweep and its visits, module presence and loss, direct access, and the
requests that hold and block ports. -/

namespace Sys2Proof.Machine

/-! ## Modules -/

/-- A module record of a bus. -/
def Bus.modul (b : Bus) (m : ModuleIx) : ModuleRec := b.modules[m]

/-- A module record replaced. -/
def Bus.setModule (b : Bus) (m : ModuleIx) (r : ModuleRec) : Bus := { b with modules := b.modules.set m r }

/-- R42, for one port: it goes out of service. Steps 1 to 5 in order; a port that is ABSENT already is not touched. -/
def Work.losePort (w : Work) (p : PortIx) : Work :=
  let r := w.st.port p
  if r.service = .absent then w
  else
    let member := w.st.ringingOn p
    let w1 := w.onPort p fun r => { (r.leaveActive .absent) with binding := none }
    let w2 := match r.binding with
      | some e => w1.unbindEntry e
      | none => w1
    let w3 := w2.dropPort p member .portLost
    let w4 := (w3.onPort p fun r =>
      { r with ring := none, faultFlag := false, leakageFlag := false, pendingCount := 0, range := .fine, loopValue := 0,
               overRun := 0, leakRun := 0, lastDrive := none, lastGain := none, drive := ⟨false, false⟩,
               rewrite := false }).touch (.port p)
    w4.recordEvent p .moduleLost

/-- The four lines of a module in ascending order. -/
def fourLines : List LineIx := [0, 1, 2, 3]

/-- R42: module `m` of bus `k` is lost: its four ports go out of service in ascending line order. Module loss is autonomous. -/
def Work.loseModule (w : Work) (k : BusIx) (m : ModuleIx) : Work :=
  fourLines.foldl (fun w l => w.losePort (portOf k m l)) w

/-- R40: a transaction addressed to module `m` ended REPLIED: a PRESENT module's count returns to 0. -/
def Work.countReply (w : Work) (k : BusIx) (m : ModuleIx) : Work :=
  w.onBus k fun b => if (b.modul m).present then b.setModule m ⟨true, 0⟩ else b

/-- R40: a transaction addressed to module `m` ended NO-REPLY: a PRESENT module's count increases, and at 3 the module becomes
ABSENT, its count returns to 0 and module loss is carried out. -/
def Work.countNoReply (w : Work) (k : BusIx) (m : ModuleIx) : Work :=
  let r := (w.st.bus k).modul m
  if r.present then
    if Config.noReplyLimit ≤ r.noReply + 1 then (w.onBus k fun b => b.setModule m ⟨false, 0⟩).loseModule k m
    else w.onBus k fun b => b.setModule m ⟨true, r.noReply + 1⟩
  else w

/-- R41: a port of a module that has become PRESENT. The held flag, and the event sets, stay as they were. -/
def Port.enterService (r : Port) : Port :=
  { Port.reset with service := .active, drive := ⟨true, false⟩, held := r.held, eventsA := r.eventsA, eventsB := r.eventsB }

/-! ## The sweep (R44, R45) -/

/-- Whether the bus's present sweep is a probe sweep (R44). -/
def Bus.probing (b : Bus) : Bool := b.sweepNumber == 0

/-- R45: the first module from `m` on that is visited or probed in this sweep, and what is done with it. -/
def Bus.nextModule (b : Bus) (m : Nat) : Option SweepAt :=
  ((List.finRange 16).find? fun i => decide (m ≤ i.val) && ((b.modul i).present || b.probing)).map fun i =>
    if (b.modul i).present then .visit i 0 .loop else .probe i

/-- R45: the visit or probe that comes at module `m`, line `l`. A module lost between two of its own visits is not probed in
the sweep that has begun to visit it (assumption 9). -/
def Bus.nextUnit (b : Bus) (m : Nat) (l : LineIx) : Option SweepAt :=
  if h : m < 16 then
    if l = 0 then b.nextModule m
    else if (b.modul ⟨m, h⟩).present then some (.visit ⟨m, h⟩ l .loop)
    else b.nextModule (m + 1)
  else none

/-- R44: the sweep ends: the number advances, wrapping from 15 to 0, and the bus waits for its next sweep. -/
def Bus.endSweep (b : Bus) : Bus := { b with sweep := .waiting, sweepNumber := b.sweepNumber + 1 }

/-- R45, R51: after a visit or a probe the bus is free. The sweep goes on at module `m`, line `l`; with a request in the direct
slot it waits for the direct transaction first; with nothing left to do it ends. -/
def Bus.goOn (b : Bus) (m : Nat) (l : LineIx) : Bus :=
  match b.nextUnit m l with
  | none => b.endSweep
  | some unit =>
    if h : b.direct.isSome ∧ m < 16 then { b with sweep := .between ⟨m, h.2⟩ l } else { b with sweep := unit }

/-- Where the sweep goes on after the visit of line `l` of module `m`: the next line, or the next module when the module has
become ABSENT or its lines are done (R45). -/
def Bus.afterVisit (b : Bus) (m : ModuleIx) (l : LineIx) : Bus :=
  if (b.modul m).present ∧ l.val < 3 then b.goOn m.val (l + 1) else b.goOn (m.val + 1) 0

/-- R44: a sweep starts now: a probe sweep looks at all modules, another at the PRESENT ones. -/
def Bus.startSweep (b : Bus) (now : Nat) : Bus := { b with sweepStarted := some now }.goOn 0 0

/-- The end of a visit. -/
def Work.endVisit (w : Work) (k : BusIx) (m : ModuleIx) (l : LineIx) : Work := w.onBus k fun b => b.afterVisit m l

/-- The transaction of a visit's step is started. -/
def Work.startStep (w : Work) (k : BusIx) (m : ModuleIx) (l : LineIx) (step : VisitStep) : Work :=
  w.onBus k fun b => { b with sweep := .visit m l step }

/-- Step 5 of a visit, or its end when no gain write is due (R46, R50). -/
def Work.stepFive (w : Work) (k : BusIx) (m : ModuleIx) (l : LineIx) (driveDone : Bool) : Work :=
  let p := portOf k m l
  if w.st.gainDue p then w.startStep k m l (.gain (w.st.desiredGain p) driveDone) else w.endVisit k m l

/-- Step 4 of a visit, or step 5 when no drive write is due (R46, R50). -/
def Work.stepFour (w : Work) (k : BusIx) (m : ModuleIx) (l : LineIx) : Work :=
  let r := w.st.port (portOf k m l)
  if r.driveDue then w.startStep k m l (.drive r.drive) else w.stepFive k m l false

/-! ## Sweep events -/

/-- SWEEP_START (R44): bus `k` starts its next sweep, no earlier than one sweep period after its last start. While a sweep is in
progress, or a request holds the direct slot (R51), no sweep starts. -/
def execSweepStart (k : BusIx) (s : State) : Result :=
  .next <|
    let b := s.bus k
    if b.sweep = .waiting ∧ b.direct = none then
      let s1 := match b.sweepStarted with
        | some t => s.reachTime (t + s.settings.sweepPeriod)
        | none => s
      s1.setBus k ((s1.bus k).startSweep s1.now)
    else s

/-- Whether a direct transaction is in progress on bus `k` (R37, R51): then no other is. -/
def Bus.directRuns (b : Bus) : Bool :=
  match b.direct with
  | some d => d.started
  | none => false

/-- The visit step in progress on a bus, with its module and line. -/
def Bus.visiting (b : Bus) : Option (ModuleIx × LineIx × VisitStep) :=
  if b.directRuns then none
  else match b.sweep with
    | .visit m l st => some (m, l, st)
    | _ => none

/-- LOOP_READING (R61): the step-1 reading of a visit ends REPLIED; step 2 judges it, and step 3 or steps 4 and 5 follow
(R46). -/
def execLoopReading (k : BusIx) (reading : Word16) (s : State) : Result :=
  .next <|
    match (s.bus k).visiting with
    | some (m, l, .loop) =>
      let w := (Work.start s .autonomous).countReply k m
      let j := w.judge (portOf k m l) (clipReading reading)
      (if j.2 then j.1.startStep k m l .identity else j.1.stepFour k m l).finish
    | _ => s

/-- R26: the identity is the high part × 65,536 + the low part. -/
def identityOf (low high : Word16) : Nat := high.toNat * 65536 + low.toNat

/-- IDENTITY_READ (R26): both identity reads of step 3, of items 8l + 4 and 8l + 5, reply and the off-hook is accepted. -/
def execIdentityRead (k : BusIx) (low high : Word16) (s : State) : Result :=
  .next <|
    match (s.bus k).visiting with
    | some (m, l, .identity) =>
      let w := (Work.start s .autonomous).countReply k m
      ((w.acceptOffHook (portOf k m l) (identityOf low high)).stepFour k m l).finish
    | _ => s

/-- DRIVE_WRITE (R50): the drive write ends REPLIED; the last-written drive is the value written. For a BLOCKED port it clears
the rewrite flag. -/
def execDriveWrite (k : BusIx) (s : State) : Result :=
  .next <|
    match (s.bus k).visiting with
    | some (m, l, .drive d) =>
      let w := (Work.start s .autonomous).countReply k m
      let w1 := w.onPort (portOf k m l) fun r =>
        { r with
          lastDrive := some d
          rewrite := match r.service with
            | .blocked _ => false
            | _ => r.rewrite }
      (w1.stepFive k m l true).finish
    | _ => s

/-- GAIN_WRITE (R50): the gain write ends REPLIED; the last-written gain is the value written, and the rewrite flag is cleared
when step 4 wrote and ended REPLIED too. -/
def execGainWrite (k : BusIx) (s : State) : Result :=
  .next <|
    match (s.bus k).visiting with
    | some (m, l, .gain code driveDone) =>
      let w := (Work.start s .autonomous).countReply k m
      let w1 := w.onPort (portOf k m l) fun r =>
        { r with lastGain := some code, rewrite := r.rewrite && !driveDone }
      (w1.endVisit k m l).finish
    | _ => s

/-- PROBE_REPLY (R41): the module is PRESENT and its four ports enter service. They are first visited in the next sweep. -/
def execProbeReply (k : BusIx) (_value : Word16) (s : State) : Result :=
  .next <|
    match (s.bus k).sweep, (s.bus k).directRuns with
    | .probe m, false =>
      let w := (Work.start s .autonomous).onBus k fun b => b.setModule m ⟨true, 0⟩
      let w1 := fourLines.foldl
        (fun w l => (w.onPort (portOf k m l) Port.enterService).touch (.port (portOf k m l))) w
      (w1.onBus k fun b => b.goOn (m.val + 1) 0).finish
    | _, _ => s

/-- R46: what follows when a step of a visit ends NO-REPLY: after step 1 the rest of the visit is skipped, after step 3 steps 4
and 5 are made, after step 4 step 5; a NO-REPLY that makes the module ABSENT ends the visit (R45). `lowReplied` says that in
step 3 the low part had replied (R26). -/
def Work.visitNoReply (w : Work) (k : BusIx) (m : ModuleIx) (l : LineIx) (step : VisitStep) (lowReplied : Bool) : Work :=
  let w0 := if step = .identity ∧ lowReplied then w.countReply k m else w
  let w1 := w0.countNoReply k m
  if ((w1.st.bus k).modul m).present then
    match step with
    | .loop => w1.endVisit k m l
    | .identity => w1.stepFour k m l
    | .drive _ => w1.stepFive k m l false
    | .gain _ _ => w1.endVisit k m l
  else w1.endVisit k m l

/-! ## Direct access (R51, R52) -/

/-- R52: whether a transaction is a WRITE to a drive or gain item of a line; that line. -/
def driveOrGainLine (d : DirectSlot) : Option LineIx :=
  if d.write.isSome ∧ (d.item.val % 8 = 2 ∨ d.item.val % 8 = 3) then some ⟨d.item.val / 8, by omega⟩ else none

/-- R52: a direct WRITE to a drive or gain item of a PRESENT module sets the rewrite flag of the port on that line. -/
def Work.flagRewrite (w : Work) (k : BusIx) (d : DirectSlot) : Work :=
  match driveOrGainLine d with
  | some l =>
    if ((w.st.bus k).modul d.modul).present then w.onPort (portOf k d.modul l) fun r => { r with rewrite := true } else w
  | none => w

/-- The direct slot is emptied, and a sweep that waited for the direct transaction goes on (R51). -/
def Bus.endDirect (b : Bus) : Bus :=
  let b := { b with direct := none }
  match b.sweep with
  | .between m l => b.goOn m.val l
  | _ => b

/-- R52, R154: the end of a direct transaction, once the event `w` has its other effects: the slot is emptied, and the
LINE ACCESS it answers completes with a status and a result; a request that LINK RESET discarded gets no RESPONSE. -/
def Work.endDirect (w : Work) (k : BusIx) (d : DirectSlot) (status : Status) (result : List Byte) : State :=
  let w1 := w.onBus k Bus.endDirect
  match d.owner.bind fun n => w1.st.queue.find? fun q => q.serial == n with
  | some q => w1.complete q status result
  | none => w1.finish

/-- The direct transaction in progress on bus `k`. -/
def State.directRunning (s : State) (k : BusIx) : Option DirectSlot :=
  (s.bus k).direct.bind fun d => if d.started then some d else none

/-- LINE_ACCESS_DONE (R52): the direct transaction ends REPLIED; a READ's result is the value read. -/
def execLineAccessDone (k : BusIx) (value : Word16) (s : State) : Result :=
  .next <|
    match s.directRunning k with
    | none => s
    | some d =>
      let w := ((Work.start s .autonomous).flagRewrite k d).countReply k d.modul
      w.endDirect k d .done (if d.write.isSome then [] else bytes16 value.toNat)

/-- R52: the direct transaction ends NO-REPLY. -/
def directNoReply (k : BusIx) (d : DirectSlot) (s : State) : State :=
  let w := ((Work.start s .autonomous).flagRewrite k d).countNoReply k d.modul
  w.endDirect k d .noReply []

/-- TRANSACTION_NO_REPLY (R37): the transaction in progress on bus `k` gets no reply in time. With none in progress nothing
ends. -/
def execTransactionNoReply (k : BusIx) (lowReplied : Bool) (s : State) : Result :=
  .next <|
    match s.directRunning k with
    | some d => directNoReply k d s
    | none =>
      match (s.bus k).sweep with
      | .visit m l step => ((Work.start s .autonomous).visitNoReply k m l step lowReplied).finish
      | .probe m => s.setBus k ((s.bus k).goOn (m.val + 1) 0)
      | .waiting => s
      | .between _ _ => s

/-- LATE_REPLY (R37): a reply to a transaction that has ended NO-REPLY is noise and is discarded. -/
def execLateReply (_k : BusIx) (_value : Word16) (s : State) : Result := .next s

/-- R51: the bus is free: the sweep waits for its next start, or for the direct transaction. -/
def Bus.isFree (b : Bus) : Bool :=
  match b.sweep with
  | .waiting => true
  | .between _ _ => true
  | _ => false

/-- DIRECT_TRANSACTION_START (R51): the direct transaction of bus `k` starts, the bus being free. With no request in the slot, or
the bus not free, none starts. -/
def execDirectTransactionStart (k : BusIx) (s : State) : Result :=
  .next <|
    match (s.bus k).direct with
    | none => s
    | some d =>
      if (s.bus k).isFree ∧ d.started = false then
        s.setBus k { s.bus k with direct := some { d with started := true } }
      else s

/-- R51: the request takes the direct slot of its bus and stays ISSUED. -/
def takeSlot (q : QueueEntry) (r : LineArgs) (s : State) : State :=
  (s.setBus r.bus { s.bus r.bus with direct := some ⟨some q.serial, r.modul, r.item, r.write, false⟩ }).setQueue
    (s.queue.map fun e => if e.serial = q.serial then { e with issued := true } else e)

/-- LINE ACCESS (R51): at issue its operands are checked; it completes BAD-FIELD, or it takes the direct slot of its bus. -/
def execLineAccess (s : State) : Result :=
  .next <|
    match s.arbiterChoice with
    | none => s
    | some q =>
      if q.frame.code = 32#8 then
        let s1 := { s with lastServed := q.side }
        match parseLine q.frame with
        | none => s1.completeWith q (.error .badField)
        | some r => takeSlot q r s1
      else s

/-! ## Holding and blocking (R53 to R55) -/

/-- R53: HOLD PORT sets the held flag; the port is marked when the flag changed. -/
def holdPortBody (x : Side) (p : PortIx) (s : State) : Answer :=
  let w := (begin_ x s).onPort p fun r => { r with held := true }
  .ok (if (s.port p).held then w else w.touch (.port p), [])

/-- HOLD PORT (R53). -/
def execHoldPort (s : State) : Result := issue 33#8 parsePort holdPortBody s

/-- R53: RELEASE HOLD clears the held flag and sets the rewrite flag; the port is marked when the held flag changed. -/
def releaseHoldBody (x : Side) (p : PortIx) (s : State) : Answer :=
  let w := (begin_ x s).onPort p fun r => { r with held := false, rewrite := true }
  .ok (if (s.port p).held then w.touch (.port p) else w, [])

/-- RELEASE HOLD (R53). -/
def execReleaseHold (s : State) : Result := issue 34#8 parsePort releaseHoldBody s

/-- R54: an ACTIVE port is blocked: R25 applies, its call is released PORT-LOST or its entry leaves the ringing list, and its feed
goes. The port and the release are marked in the other side's list (R107), the member's loss in both (R93). -/
def Work.blockActive (w : Work) (p : PortIx) : Work :=
  let member := w.st.ringingOn p
  let w1 := (w.onPort p fun r => { (r.leaveActive (.blocked false)) with drive := ⟨false, false⟩, pendingCount := 0 }).touch
    (.port p)
  w1.dropPort p member .portLost

/-- R54: BLOCK PORT, by the port's service at issue. -/
def blockPortBody (x : Side) (p : PortIx) (s : State) : Answer :=
  let w := begin_ x s
  match (s.port p).service with
  | .absent => .error .state
  | .blocked false => .error .state
  | .active => .ok (w.blockActive p, [])
  | .fault _ =>
    .ok ((w.onPort p fun r => { r with service := .blocked false, drive := ⟨false, false⟩ }).touch (.port p), [])
  | .blocked true =>
    .ok ((w.onPort p fun r => { r with service := .blocked false, drive := ⟨false, false⟩ }).touch (.port p), [])

/-- BLOCK PORT (R54). -/
def execBlockPort (s : State) : Result := issue 35#8 parsePort blockPortBody s

/-- R55: UNBLOCK PORT gives a BLOCKED port the unblock mark and sets its desired drive to feed on, ring off. -/
def unblockPortBody (x : Side) (p : PortIx) (s : State) : Answer :=
  match (s.port p).service with
  | .blocked false =>
    .ok (((begin_ x s).onPort p fun r => { r with service := .blocked true, drive := ⟨true, false⟩ }).touch (.port p), [])
  | _ => .error .state

/-- UNBLOCK PORT (R55). -/
def execUnblockPort (s : State) : Result := issue 36#8 parsePort unblockPortBody s

/-- R57: SET SWEEP PERIOD, clamped to 2..50 ms. -/
def setSweepPeriodBody (x : Side) (v : Byte) (s : State) : Answer :=
  let t := clamp 2 50 v.toNat
  .ok ((begin_ x s).onState fun s => s.setSettings { s.settings with sweepPeriod := t }, [b8 t])

/-- SET SWEEP PERIOD (R57). -/
def execSetSweepPeriod (s : State) : Result := issue 53#8 parseValue setSweepPeriodBody s

end Sys2Proof.Machine
end

