-- ==== Sys2Proof/Machine/Reset.lean ====
section
/-! DEFINITION. Power-on reset. -/

namespace Sys2Proof.Machine

/-- POWER_ON_RESET (R21, R140): every field takes its reset value. The inputs keep their levels: LISTEN as it stood, LINK RESET as
given; a LINK RESET input that is asserted when power-on reset ends is taken as asserted from then on. The commands that wait
are the world's and stay. -/
def execPowerOnReset (resetA resetB : Bool) (s : State) : Result :=
  .next { State.reset with
    linkA := { Link.reset with linkReset := resetA, listen := s.linkA.listen }
    linkB := { Link.reset with linkReset := resetB, listen := s.linkB.listen }
    pending := s.pending }

end Sys2Proof.Machine
end

