-- ==== Sys2Proof/Machine/Dispatch.lean ====
section
/-! DEFINITION. The meaning of every command, one arm each. -/

namespace Sys2Proof.Machine

/-- What a command does to everything but the queue of waiting commands. -/
def exec (i : Instr) (s : State) : Host.Outcome State Fault Refusal :=
  match i with
  | .powerOnReset resetA resetB => Sys2Proof.Machine.execPowerOnReset resetA resetB s
  | .requestFrame x bytes => Sys2Proof.Machine.execRequestFrame x bytes s
  | .enter => Sys2Proof.Machine.execEnter s
  | .amend => Sys2Proof.Machine.execAmend s
  | .bar => Sys2Proof.Machine.execBar s
  | .unbar => Sys2Proof.Machine.execUnbar s
  | .remove => Sys2Proof.Machine.execRemove s
  | .lookup => Sys2Proof.Machine.execLookup s
  | .readEntry => Sys2Proof.Machine.execReadEntry s
  | .takeoverEntry => Sys2Proof.Machine.execTakeoverEntry s
  | .setGroup => Sys2Proof.Machine.execSetGroup s
  | .readGroup => Sys2Proof.Machine.execReadGroup s
  | .offer => Sys2Proof.Machine.execOffer s
  | .connectTrunk => Sys2Proof.Machine.execConnectTrunk s
  | .confirm => Sys2Proof.Machine.execConfirm s
  | .scramble => Sys2Proof.Machine.execScramble s
  | .release => Sys2Proof.Machine.execRelease s
  | .readCall => Sys2Proof.Machine.execReadCall s
  | .lineAccess => Sys2Proof.Machine.execLineAccess s
  | .directTransactionStart k => Sys2Proof.Machine.execDirectTransactionStart k s
  | .lineAccessDone k value => Sys2Proof.Machine.execLineAccessDone k value s
  | .holdPort => Sys2Proof.Machine.execHoldPort s
  | .releaseHold => Sys2Proof.Machine.execReleaseHold s
  | .blockPort => Sys2Proof.Machine.execBlockPort s
  | .unblockPort => Sys2Proof.Machine.execUnblockPort s
  | .clearFault => Sys2Proof.Machine.execClearFault s
  | .setCadence => Sys2Proof.Machine.execSetCadence s
  | .setSupervision => Sys2Proof.Machine.execSetSupervision s
  | .setFaultMode => Sys2Proof.Machine.execSetFaultMode s
  | .setGain => Sys2Proof.Machine.execSetGain s
  | .setGainTable => Sys2Proof.Machine.execSetGainTable s
  | .setSweepPeriod => Sys2Proof.Machine.execSetSweepPeriod s
  | .setQuietCode => Sys2Proof.Machine.execSetQuietCode s
  | .setOfferDefaults => Sys2Proof.Machine.execSetOfferDefaults s
  | .takeoverSide => Sys2Proof.Machine.execTakeoverSide s
  | .refresh => Sys2Proof.Machine.execRefresh s
  | .unknownRequest => Sys2Proof.Machine.execUnknownRequest s
  | .sweepStart k => Sys2Proof.Machine.execSweepStart k s
  | .loopReading k reading => Sys2Proof.Machine.execLoopReading k reading s
  | .identityRead k low high => Sys2Proof.Machine.execIdentityRead k low high s
  | .driveWrite k => Sys2Proof.Machine.execDriveWrite k s
  | .gainWrite k => Sys2Proof.Machine.execGainWrite k s
  | .probeReply k value => Sys2Proof.Machine.execProbeReply k value s
  | .transactionNoReply k lowReplied => Sys2Proof.Machine.execTransactionNoReply k lowReplied s
  | .lateReply k value => Sys2Proof.Machine.execLateReply k value s
  | .ringPhaseExpiry p => Sys2Proof.Machine.execRingPhaseExpiry p s
  | .stepExpiry c => Sys2Proof.Machine.execStepExpiry c s
  | .offerExpiry c => Sys2Proof.Machine.execOfferExpiry c s
  | .retestExpiry p => Sys2Proof.Machine.execRetestExpiry p s
  | .frameSync mark net line => Sys2Proof.Machine.execFrameSync mark net line s
  | .unexpectedSync mark => Sys2Proof.Machine.execUnexpectedSync mark s
  | .missedSync net line => Sys2Proof.Machine.execMissedSync net line s
  | .linkResetAssert x => Sys2Proof.Machine.execLinkResetAssert x s
  | .linkResetRelease x => Sys2Proof.Machine.execLinkResetRelease x s
  | .reportDelivery x listen => Sys2Proof.Machine.execReportDelivery x listen s
  | .reportFrameSent x listen => Sys2Proof.Machine.execReportFrameSent x listen s

end Sys2Proof.Machine
end

