-- ==== Sys2Proof/Safety.lean ====
section
/-! DEFINITION. The words claims are stated in: what a completed request leaves, what an event marks, and what must hold of
every state the part can be in. -/

namespace Sys2Proof.Machine

/-! ## Requests that complete -/

/-- The arbiter issues request `q` next, and its request code is `code` (R144). -/
def State.Issues (s : State) (q : QueueEntry) (code : Byte) : Prop := s.arbiterChoice = some q ∧ q.frame.code = code

/-- A control link whose report list a RESPONSE joins at the tail, unless LINK RESET is held (R146, R155). -/
def Link.answered (l : Link) (r : Response) : Link := if l.linkReset then l else { l with report := l.report ++ [.response r] }

/-- A control link in whose report list objects are marked in this order, unless LINK RESET is held (R155, R156). -/
def Link.marked (l : Link) (os : List Obj) : Link := if l.linkReset then l else { l with report := os.foldl markIn l.report }

/-- `s`, whose records are as request `q` leaves them, once `q` has completed (R144, R145): side `q.side` has its RESPONSE, the
objects `marks` are marked in the other side's list, `q` has left the queue and its side was served last. -/
def State.completed (s : State) (q : QueueEntry) (status : Status) (result : List Byte) (marks : List Obj) : State :=
  let r : Response := ⟨q.frame.tag, status, result⟩
  { s with
    linkA := match q.side with
      | .a => s.linkA.answered r
      | .b => s.linkA.marked marks
    linkB := match q.side with
      | .a => s.linkB.marked marks
      | .b => s.linkB.answered r
    queue := leaveQueue (fun e => e.serial == q.serial) s.queue
    lastServed := q.side }

/-- A refused request: its RESPONSE, and no record changed (R10, R146). -/
def State.refusedWith (s : State) (q : QueueEntry) (status : Status) : State := s.completed q status [] []

/-- `s` with objects marked in both sides' lists in this order, as an autonomous event leaves them (R157). -/
def State.markedBoth (s : State) (marks : List Obj) : State :=
  { s with linkA := s.linkA.marked marks, linkB := s.linkB.marked marks }

/-- Port record `r` with event `ev` recorded in side `x`'s set, unless `x`'s LINK RESET is held (R158). -/
def State.withEvent (s : State) (x : Side) (ev : PortEvent) (r : Port) : Port :=
  if s.resetHeld x then r else r.setEvents x ((r.events x).add ev)

/-- Port record `r` with event `ev` recorded in both sides' sets (R158). -/
def State.withEventBoth (s : State) (ev : PortEvent) (r : Port) : Port := s.withEvent .b ev (s.withEvent .a ev r)

/-- R33: the record of the port whose entry a request of side `x` bars or removes: it has no binding, and if it was ORIGINATING
it is REFUSED and REFUSED is recorded in the other side's set. -/
def State.unbound (s : State) (x : Side) (why : RefusalReason) (r : Port) : Port :=
  if r.activity = .originating then
    s.withEvent x.other .refused { r with binding := none, activity := .refused why, gainIndex := none }
  else { r with binding := none }

/-! ## Calls, offers and ringing -/

/-- R125: `s` with the lowest-numbered FREE contexts taken for the legs of call `c` with body `b`, in the order of R125. -/
def State.withContextsFor (s : State) (c : CallIx) (b : CallBody) : State :=
  s.setContexts (mapIx (fun i x => match (s.freeContexts.zip (contextsFor c b)).lookup i with
    | some r => some r
    | none => x) s.contexts)

/-- The port of one of these entries. -/
def State.isPortOf (s : State) (es : List EntryIx) (p : PortIx) : Bool := es.any fun e => s.boundPort e == some p

/-- R78, R85: `s` once the entries `es` ring for call `c` on cadence `i`: their call fields name `c` and their ports ring. -/
def State.rung (s : State) (c : CallIx) (i : CadenceIx) (es : List EntryIx) : State :=
  { s with
    entries := mapIx (fun e r => if es.contains e then r.map fun r => { r with call := some c } else r) s.entries
    ports := mapIx (fun p r => if s.isPortOf es p then r.startRing i (s.cadence i) s.now else r) s.ports }

/-- R80, R86, R89: `s` once the entries `es` have stopped ringing for call `c`: their ports ring no more and are IDLE, and their
call fields are cleared. -/
def State.hushed (s : State) (c : CallIx) (es : List EntryIx) : State :=
  { s with
    entries := mapIx (fun e r => if es.contains e then r.map fun r =>
      if r.call = some c then { r with call := none } else r else r) s.entries
    ports := mapIx (fun p r => if s.isPortOf es p then r.quitRinging else r) s.ports }

/-- The objects that the entries `es` mark when they begin or stop ringing: those of them whose call field is as given, and their
ports (R93). -/
def State.marksOf (s : State) (es : List EntryIx) (c : Option CallIx) : List Obj :=
  (es.filter fun e => match s.entry e with
    | some r => r.call == c
    | none => false).map .entry ++ (es.filterMap s.boundPort).map .port

/-- The entries that ring for a call with body `b`. -/
def CallBody.ringingList (b : CallBody) : List EntryIx :=
  match b.phase with
  | .offered o => o.ringing
  | _ => []

/-- The entries of the legs of a call. -/
def CallBody.legEntries (b : CallBody) : List EntryIx := b.calling.toList.filterMap (·.entry) ++ b.called.toList.filterMap (·.entry)

/-- The ports of the legs of a call. -/
def CallBody.legPorts (b : CallBody) : List PortIx := b.calling.toList.filterMap (·.port) ++ b.called.toList.filterMap (·.port)

/-- R107 step 2: whether the release of a call with body `b` frees port `p`: it is a leg's, TALKING and ACTIVE. -/
def State.isFreed (s : State) (b : CallBody) (p : PortIx) : Bool :=
  b.legPorts.contains p && (s.port p).activity == .talking && (s.port p).service == .active

/-- R107, R108, R127: `s` once call `c`, live with body `b`, is released: the call is RELEASING (FREE while the highway is LOST), its
legs' ports are free, its ringing members hushed, its entries' call fields cleared, its contexts RESERVED (FREE while LOST). -/
def State.released (s : State) (c : CallIx) (b : CallBody) (why : ReleaseReason) : State :=
  let lost := s.highway.state == .lost
  let free (r : Port) : Port :=
    if r.hook = .off then { r with activity := .originating } else { r with activity := .idle, gainIndex := none }
  { (s.hushed c (b.legEntries ++ b.ringingList)) with
    ports := mapIx (fun p r =>
      let r := if s.isFreed b p then free r else r
      if s.isPortOf b.ringingList p then r.quitRinging else r) s.ports
    calls := s.calls.set c { s.call c with
      lastReason := some why, body := if lost then none else some { b with phase := .releasing } }
    contexts := mapIx (fun _ x => x.bind fun r =>
      if r.call = c then (if lost then none else some { r with state := .reserved }) else some r) s.contexts }

/-- R107: the objects that the release of call `c` with body `b` marks. -/
def State.releaseMarks (s : State) (c : CallIx) (b : CallBody) : List Obj :=
  s.marksOf b.legEntries (some c) |>.filter (fun o => match o with
    | .entry _ => true
    | _ => false) |>.append ((b.legPorts.filter (s.isFreed b)).map .port ++ s.marksOf b.ringingList (some c) ++ [.call c])

/-- The calls that are FREE in `t` and were not in `s`: a call that becomes FREE is marked in both lists (R108). -/
def State.freedCalls (s t : State) : List Obj :=
  ((List.finRange 128).filter fun c => (s.call c).body.isSome && (t.call c).body.isNone).map .call

/-- A change with the objects it marks. -/
abbrev Marked := State × List Obj

/-- R86 items 2 and 3: a step of the offer `o`, whose ringing list is empty, of call `c` with body `b`. -/
def State.stepped (s : State) (c : CallIx) (b : CallBody) (o : Offer) : Marked :=
  match o.remaining.dropWhile fun e => !s.eligible b.kind o.target b.mode e with
  | [] =>
    let b0 := { b with phase := .offered { o with ringing := [] } }
    (s.released c b0 .noAnswer, s.releaseMarks c b0)
  | e :: es =>
    let o' := { o with ringing := [e], remaining := es, stepExpiry := some (s.now + o.stepTime * 1000) }
    ((s.setCall c { s.call c with body := some { b with phase := .offered o' } }).rung c o.cadence [e],
      .call c :: .entry e :: (s.boundPort e).toList.map .port)

/-- R88: entry `e`, which rings in the offer `o` of call `c` with body `b`, leaves the ringing list: its call field is cleared, and the
offer rings on, steps or is released. -/
def State.memberGone (s : State) (c : CallIx) (b : CallBody) (o : Offer) (e : EntryIx) (ineligible : Bool) : Marked :=
  let left := o.ringing.filter (· ≠ e)
  let o' := { o with ringing := left }
  let b' := { b with phase := .offered o' }
  let cleared := (s.entry e).bind Entry.call = some c
  let s1 := { s.setCall c { s.call c with body := some b' } with
    entries := if cleared then s.entries.set e ((s.entry e).map fun r => { r with call := none }) else s.entries }
  let marks := .call c :: if cleared then [.entry e] else []
  if left = [] then
    match o.policy with
    | .all => (s1.released c b' (if ineligible then .noMember else .noAnswer), marks ++ s1.releaseMarks c b')
    | .sequential => ((s1.stepped c b' o').1, marks ++ (s1.stepped c b' o').2)
  else (s1, marks)

/-- `s` once the live call of which port `p` is a leg's is released (R42, R54, R66). -/
def State.legDropped (s : State) (p : PortIx) (why : ReleaseReason) : Marked :=
  match s.callOfPort p with
  | none => (s, [])
  | some c =>
    match (s.call c).body with
    | none => (s, [])
    | some b => (s.released c b why, s.releaseMarks c b)

/-- `s` once `member`, the call and entry that rang on port `p`, has left the ringing list as ineligible (R88). It marks the port
too, whose activity it changed (R93). -/
def State.memberDropped (s : State) (p : PortIx) (member : Option (CallIx × EntryIx)) : Marked :=
  match member with
  | none => (s, [])
  | some (c, e) =>
    match (s.call c).body.bind fun b => b.offer?.map fun o => (b, o) with
    | some (b, o) =>
      if o.ringing.contains e then
        let gone := s.memberGone c b o e true
        (gone.1, .port p :: gone.2)
      else (s, [.port p])
    | none => (s, [.port p])

/-- What becomes of the call or the offer of port `p` when it leaves ACTIVE: the call of a leg is released, and `member`, the call
and entry that rang on it, leaves the ringing list as ineligible (R42, R54, R66, R88). -/
def State.dropped (s : State) (p : PortIx) (member : Option (CallIx × EntryIx)) (why : ReleaseReason) : Marked :=
  let leg := s.legDropped p why
  let gone := leg.1.memberDropped p member
  (gone.1, leg.2 ++ gone.2)

/-- R42: `s` once port `p` of a lost module is out of service: its record is that of power-on reset but for the hook, the held flag and
the event sets, in which MODULE-LOST is recorded; its entry is ENTERED; its call or offer has gone as R42 item 3 says. -/
def State.portLost (s : State) (p : PortIx) : Marked :=
  let r := s.port p
  if r.service = .absent then (s, [])
  else
    let off : Port := { Port.reset with hook := r.hook, held := r.held, eventsA := r.eventsA, eventsB := r.eventsB }
    let s1 : State := { s with
      ports := s.ports.set p off
      entries := mapIx (fun e x => if r.binding = some e then x.map fun x => { x with status := .entered } else x) s.entries }
    let gone := s1.dropped p (s.ringingOn p) .portLost
    (gone.1.setPort p (s.withEventBoth .moduleLost off), .port p :: (r.binding.toList.map .entry ++ gone.2))

/-- R42: `s` once module `m` of bus `k` is ABSENT with count 0 and its four ports are out of service, in ascending line order. -/
def State.moduleLost (s : State) (k : BusIx) (m : ModuleIx) : Marked :=
  ([0, 1, 2, 3] : List LineIx).foldl (fun t l =>
    let lost := t.1.portLost (portOf k m l)
    (lost.1, t.2 ++ lost.2)) (s.setBus k ((s.bus k).setModule m ⟨false, 0⟩), [])

/-! ## Visits -/

/-- R40: `s` once a transaction addressed to module `m` of bus `k` has replied. -/
def State.replied (s : State) (k : BusIx) (m : ModuleIx) : State :=
  if ((s.bus k).modul m).present then s.setBus k ((s.bus k).setModule m ⟨true, 0⟩) else s

/-- R46, R47, R50: step 5 of the visit of line `l`, or its end: the gain code is written when the port is ACTIVE or in FAULT and not
held, and the desired code is not the last-written one or the rewrite flag is set. -/
def State.goesToGain (s : State) (k : BusIx) (m : ModuleIx) (l : LineIx) (driveDone : Bool) : State :=
  let r := s.port (portOf k m l)
  let code := s.desiredGain (portOf k m l)
  let served := match r.service with
    | .active => true
    | .fault _ => true
    | _ => false
  if served = true ∧ r.held = false ∧ (r.lastGain ≠ some code ∨ r.rewrite = true) then
    s.setBus k { s.bus k with sweep := .visit m l (.gain code driveDone) }
  else s.setBus k ((s.bus k).afterVisit m l)

/-- R46, R50: step 4 of the visit of line `l`, or step 5: the drive is written when the port is not held and the desired drive is not
the last-written one or the rewrite flag is set. -/
def State.goesToDrive (s : State) (k : BusIx) (m : ModuleIx) (l : LineIx) : State :=
  let r := s.port (portOf k m l)
  if r.held = false ∧ (r.lastDrive ≠ some r.drive ∨ r.rewrite = true) then
    s.setBus k { s.bus k with sweep := .visit m l (.drive r.drive) }
  else s.goesToGain k m l false

/-- R71: the leakage judgement of port `p` on its loop value. -/
def State.leakageJudged (s : State) (p : PortIx) : Marked :=
  let r := s.port p
  let t := s.settings
  if r.loopValue < t.leakt then
    (s.setPort p { r with leakRun := 0, leakageFlag := false }, if r.leakageFlag then [.port p] else [])
  else if r.hook = .on ∧ r.ringJudged = false ∧ r.loopValue < t.offt then
    let run := min 16 (r.leakRun + 1)
    if run = 16 ∧ r.leakageFlag = false then
      (s.setPort p (s.withEventBoth .leakage { r with leakRun := run, leakageFlag := true }), [.port p])
    else (s.setPort p { r with leakRun := run }, [])
  else (s.setPort p { r with leakRun := 0 }, [])

/-- R59, R60: port record `r` with the loop value of a reading and the range of its next visit. -/
def Port.heard (r : Port) (reading : Word16) : Port :=
  let v := min reading.toNat 4095
  match r.range with
  | .fine => { r with loopValue := v, range := if 3840 ≤ v then .coarse else .fine }
  | .coarse => { r with loopValue := v * 8, range := if v < 448 then .fine else .coarse }

/-- R67, R70: the phase WAITING of a port that enters it now. -/
def State.waiting (s : State) : FaultPhase :=
  .waiting (match s.settings.faultMode with
    | .retest => some (s.now + s.settings.retestInterval)
    | .latched => none)

/-! ## Frames and block boundaries -/

/-- R112, R114, R135: `s` once frame `f` of a block has been taken: what the part sends in it, the number in slot 255, and one sample
more in every collecting buffer. -/
def State.framed (s : State) (f : BlockPos) (fr : FrameIn) : State :=
  let h := s.highway
  let sample (r : ContextRec) : List Byte := match s.legOf r with
    | none => []
    | some l =>
      match r.direction with
      | .scramble => (l.port.map fun p => fr.line[p]).toList
      | .descramble => [fr.net[l.recv.val]]
  { s with
    highway := { h with
      position := some f, prev := some fr, out := some (s.frameOut f)
      high := if f = 0 then some fr.net[255] else if f = 1 then none else h.high
      announced := if f = 1 then h.high.map (fun high => high ++ fr.net[255]) else h.announced }
    contexts := mapIx (fun _ x => x.map fun r => { r with state := match r.state with
      | .reserved => .reserved
      | .filling collected index => .filling (collected ++ sample r) index
      | .running collected index emitting perm => .running (collected ++ sample r) index emitting perm }) s.contexts }

/-- R101, R116, R118: a leg after a boundary of a CONNECTED call, scrambling or not; `restart` at a count jump and at the boundary that
regains the highway. -/
def Leg.moved (l : Leg) (scrambling restart : Bool) : Leg :=
  if scrambling then
    { l with path := match restart, l.path with
      | false, .starting => .scrambled
      | false, .scrambled => .scrambled
      | _, _ => .starting }
  else { l with path := .clear, contexts := 0 }

/-- R101: the legs of a call after a boundary: those of a CONNECTED call move. -/
def CallBody.moved (b : CallBody) (restart : Bool) : CallBody :=
  let scrambling := decide (b.mode ≠ .off) && (b.calling.toList ++ b.called.toList).any fun l => l.contexts != 0
  match b.phase with
  | .connected =>
    { b with calling := b.calling.map (·.moved scrambling restart), called := b.called.map (·.moved scrambling restart) }
  | _ => b

/-- R126: a context at a boundary that adopts `m`, by the path of its leg after it. -/
def ContextRec.moved (r : ContextRec) (path : Path) (m : Word16) : Option ContextRec :=
  let index : Option Word16 := match r.direction with
    | .scramble => none
    | .descramble => some (m - r.anchor)
  let run (collected : List Byte) (kept : Option Word16) : ContextRec :=
    { r with state := .running [] index collected (blockPerm r.variant (match r.direction, kept with
      | .descramble, some b => b
      | _, _ => m - r.anchor)) }
  match path, r.state with
  | .pending, _ => some r
  | .clear, _ => none
  | .starting, _ => some { r with state := .filling [] index }
  | .scrambled, .reserved => some r
  | .scrambled, .filling collected kept => some (run collected kept)
  | .scrambled, .running collected kept _ _ => some (run collected kept)

/-- R101, R108, R115, R126, R127: `s` once a boundary that adopts `m` has been handed to the Call Table and the Scrambler. -/
def State.bounded (s : State) (restart : Bool) (m : Word16) : State :=
  { s with
    calls := mapIx (fun _ c => { c with body := c.body.bind fun b =>
      if b.phase = .releasing then none else some (b.moved restart) }) s.calls
    contexts := mapIx (fun _ x => x.bind fun r => match (s.call r.call).body with
      | none => some r
      | some b =>
        if b.phase = .releasing then none
        else match (b.moved restart).leg r.role with
          | none => some r
          | some l => r.moved l.path m) s.contexts }

/-- R114, R115: `s` while SYNCED, at a frame that falls at position 0: the boundary, the marks, and the frame. -/
def State.blockOpened (s : State) (jump : Bool) (missed : Nat) (fr : FrameIn) : State :=
  let h := s.highway
  let m := match h.announced with
    | some n => n
    | none => h.count + 1
  let t := { s with highway := { h with
    count := m, announced := none, high := none, missed := missed
    jumpCount := if jump then min 255 (h.jumpCount + 1) else h.jumpCount } }.bounded jump m
  (t.framed 0 fr).markedBoth (s.freedCalls t ++ if jump then [.highway] else [])

/-- The request code of a request row, with whether a frame's operands can be read as that request's (R161). The other rows have
none; UNKNOWN_REQUEST has no code of its own. -/
def requestOf : Instr → Option (Byte × (Frame → Bool))
  | .enter => some (1#8, fun f => (parseEnter f).isSome)
  | .amend => some (2#8, fun f => (parseAmend f).isSome)
  | .bar => some (3#8, fun f => (parseEntry f).isSome)
  | .unbar => some (4#8, fun f => (parseEntry f).isSome)
  | .remove => some (5#8, fun f => (parseEntry f).isSome)
  | .lookup => some (6#8, fun f => (parseLookup f).isSome)
  | .readEntry => some (7#8, fun f => (parseEntry f).isSome)
  | .takeoverEntry => some (8#8, fun f => (parseEntry f).isSome)
  | .setGroup => some (9#8, fun f => (parseSetGroup f).isSome)
  | .readGroup => some (10#8, fun f => (parseReadGroup f).isSome)
  | .offer => some (16#8, fun f => (parseOffer f).isSome)
  | .connectTrunk => some (17#8, fun f => (parseTrunk f).isSome)
  | .confirm => some (18#8, fun f => (parseConfirm f).isSome)
  | .scramble => some (19#8, fun f => (parseScramble f).isSome)
  | .release => some (20#8, fun f => (parseRelease f).isSome)
  | .readCall => some (21#8, fun f => (parseReadCall f).isSome)
  | .lineAccess => some (32#8, fun f => (parseLine f).isSome)
  | .holdPort => some (33#8, fun f => (parsePort f).isSome)
  | .releaseHold => some (34#8, fun f => (parsePort f).isSome)
  | .blockPort => some (35#8, fun f => (parsePort f).isSome)
  | .unblockPort => some (36#8, fun f => (parsePort f).isSome)
  | .clearFault => some (37#8, fun f => (parsePort f).isSome)
  | .setCadence => some (48#8, fun f => (parseCadence f).isSome)
  | .setSupervision => some (49#8, fun f => (parseSupervision f).isSome)
  | .setFaultMode => some (50#8, fun f => (parseFaultMode f).isSome)
  | .setGain => some (51#8, fun f => (parseGain f).isSome)
  | .setGainTable => some (52#8, fun f => (parseGainTable f).isSome)
  | .setSweepPeriod => some (53#8, fun f => (parseValue f).isSome)
  | .setQuietCode => some (54#8, fun f => (parseValue f).isSome)
  | .setOfferDefaults => some (55#8, fun f => (parseValue f).isSome)
  | .takeoverSide => some (64#8, fun f => (parseNone f).isSome)
  | .refresh => some (65#8, fun f => (parseNone f).isSome)
  | .unknownRequest => none
  | .powerOnReset _ _ => none
  | .requestFrame _ _ => none
  | .directTransactionStart _ => none
  | .lineAccessDone _ _ => none
  | .sweepStart _ => none
  | .loopReading _ _ => none
  | .identityRead _ _ _ => none
  | .driveWrite _ => none
  | .gainWrite _ => none
  | .probeReply _ _ => none
  | .transactionNoReply _ _ => none
  | .lateReply _ _ => none
  | .ringPhaseExpiry _ => none
  | .stepExpiry _ => none
  | .offerExpiry _ => none
  | .retestExpiry _ => none
  | .frameSync _ _ _ => none
  | .unexpectedSync _ => none
  | .missedSync _ _ => none
  | .linkResetAssert _ => none
  | .linkResetRelease _ => none
  | .reportDelivery _ _ => none
  | .reportFrameSent _ _ => none

/-! ## What must always hold -/

/-- The objects in a report list. -/
def objectsOf (items : List ReportItem) : List Obj := items.filterMap fun i =>
  match i with
  | .obj o => some o
  | .response _ => none

/-- R138, R139, R141, R155, R156: the bounds of the links, of the queue and of the lists. -/
structure State.LinksOk (s : State) : Prop where
  queueBound : s.queue.length ≤ 12
  shareBound : ∀ x, s.outstanding x ≤ 8
  heldQueue : ∀ x, s.resetHeld x = true → s.queued x = 0
  heldList : ∀ x, s.resetHeld x = true → (s.link x).report = []
  gathered : ∀ x, (s.link x).gathered.length < 16
  heldBytes : ∀ x, s.resetHeld x = true → (s.link x).gathered = []
  heldFrame : ∀ x, s.resetHeld x = true → (s.link x).sending = none
  noRepeat : ∀ x, (objectsOf (s.link x).report).Nodup

/-- R141, R142, R143: the queue's entries have names of their own, an entry's key set is that of its frame, it waits for exactly the older
entries whose key sets conflict with its own, and one that has been issued waits for none. -/
structure State.OrderOk (s : State) : Prop where
  named : (s.queue.map (·.serial)).Nodup
  older : ∀ q ∈ s.queue, q.serial < s.nextSerial
  keys : ∀ q ∈ s.queue, q.keys = keySet q.frame
  waits : ∀ before q after, s.queue = before ++ q :: after →
    q.waits = (before.filter fun e => conflict e.keys q.keys).map (·.serial)
  issued : ∀ q ∈ s.queue, q.issued = true → q.waits = []

/-- R57, R70, R73, R74, R77, R87: every setting is in its range, and the thresholds are in their order. -/
structure State.SettingsOk (s : State) : Prop where
  hookOrder : s.settings.ont < s.settings.offt
  ringOrder : s.settings.offt ≤ s.settings.rtt
  currentOrder : s.settings.rtt < s.settings.oct
  octBound : s.settings.oct ≤ 32760
  leaktBound : s.settings.leakt ≤ 32760
  debounce : 1 ≤ s.settings.debounce ∧ s.settings.debounce ≤ 8
  retest : 100 ≤ s.settings.retestInterval ∧ s.settings.retestInterval ≤ 5000
  gainBase : s.settings.gainBase ≤ 32760
  gainStep : 1 ≤ s.settings.gainStep ∧ s.settings.gainStep ≤ 4000
  gainCodes : ∀ i : Fin 16, s.settings.gainTable[i] ≤ 63
  sweepPeriod : 2 ≤ s.settings.sweepPeriod ∧ s.settings.sweepPeriod ≤ 50
  offerDefault : 5 ≤ s.settings.offerDefault ∧ s.settings.offerDefault ≤ 255
  cadences : ∀ i, (s.cadence i).onTime % 50 = 0 ∧ 50 ≤ (s.cadence i).onTime ∧ (s.cadence i).onTime ≤ 5000 ∧
    (s.cadence i).offTime % 50 = 0 ∧ 50 ≤ (s.cadence i).offTime ∧ (s.cadence i).offTime ≤ 5000 ∧
    1 ≤ (s.cadence i).cycles ∧ (s.cadence i).cycles ≤ 255
  stepTimes : ∀ g, 2 ≤ (s.group g).stepTime ∧ (s.group g).stepTime ≤ 60

/-- R113, R114, R117: which fields of the Highway Unit are there in which state, and their bounds. -/
structure State.HighwayOk (s : State) : Prop where
  lostIsSilent : s.highway.state = .lost → s.highway.out = none ∧ s.highway.prev = none ∧ s.highway.missed = 0
  syncedHasPlace : s.highway.state = .synced → s.highway.position.isSome = true ∧ s.highway.out.isSome = true
  highInFrame0 : s.highway.high.isSome = true ↔ s.highway.position = some 0
  announcedLater : s.highway.announced.isSome = true → ∃ f, s.highway.position = some f ∧ f ≠ 0
  jumps : s.highway.jumpCount ≤ 255
  missed : s.highway.missed ≤ 1

/-- R3, R6, R10: no two entries hold one identity, one directory number or one home port, and each is in its range. -/
structure State.DirectoryOk (s : State) : Prop where
  identities : ∀ e f r q, s.entry e = some r → s.entry f = some q → r.identity = q.identity → e = f
  numbers : ∀ e f r q, s.entry e = some r → s.entry f = some q → r.number = q.number → e = f
  homes : ∀ e f r q, s.entry e = some r → s.entry f = some q → r.home.isSome = true → r.home = q.home → e = f
  identityRange : ∀ e r, s.entry e = some r → 1 ≤ r.identity ∧ r.identity ≤ 16777215
  numberRange : ∀ e r, s.entry e = some r → r.number ≤ 9999

/-- R8, R9: members and groups lists name each other, without repetition and within their lengths. -/
structure State.GroupsOk (s : State) : Prop where
  bothWays : ∀ e g, e ∈ (s.group g).members ↔ ∃ r, s.entry e = some r ∧ g ∈ r.groups
  memberOnce : ∀ g, (s.group g).members.Nodup
  memberBound : ∀ g, (s.group g).members.length ≤ 16
  groupOnce : ∀ e r, s.entry e = some r → r.groups.Nodup
  groupBound : ∀ e r, s.entry e = some r → r.groups.length ≤ 4

/-- The send slots held by the calls that are not FREE (R98). -/
def State.heldSlots (s : State) : List SlotIx :=
  s.calls.toList.flatMap fun c => match c.body with
    | some b => b.sendSlots
    | none => []

/-- R98: no send slot is held twice. -/
def State.SlotsOk (s : State) : Prop := s.heldSlots.Nodup

/-- R2, R22, R39, R41: a port's binding and its entry's bound port name each other, an ABSENT port has no binding, a port is
ABSENT exactly when its module is, and a module that is being probed is ABSENT. -/
structure State.BindingsOk (s : State) : Prop where
  bothWays : ∀ p e, (s.port p).binding = some e ↔ s.boundPort e = some p
  absentUnbound : ∀ p, (s.port p).service = .absent → (s.port p).binding = none
  withModule : ∀ k m l, (s.port (portOf k m l)).service = .absent ↔ ((s.bus k).modul m).present = false
  probed : ∀ k m, (s.bus k).sweep = .probe m → ((s.bus k).modul m).present = false

/-- Call `c` is OFFERED, PROVISIONAL or CONNECTED with body `b`. -/
def State.Live (s : State) (c : CallIx) (b : CallBody) : Prop := (s.call c).body = some b ∧ b.phase ≠ .releasing

/-- R7, R23, R80, R91, R96: the call fields, the TALKING and the RINGING ports are exactly those of the live calls. A live leg sits at the
port its entry is bound to, but for the called leg of an offer, which has no port yet, and the entry of which, if it has one, is the
whole of its ringing list. -/
structure State.CallsOk (s : State) : Prop where
  callField : ∀ e c, (s.entry e).bind Entry.call = some c ↔ ∃ b, s.Live c b ∧ (e ∈ b.legEntries ∨ e ∈ b.ringingList)
  talking : ∀ p, (s.port p).activity = .talking ↔ ∃ c b, s.Live c b ∧ p ∈ b.legPorts
  ringing : ∀ p, (s.port p).activity = .ringing ↔ ∃ e c b, (s.port p).binding = some e ∧ s.Live c b ∧ e ∈ b.ringingList
  ringState : ∀ p, (s.port p).ring.isSome = true ↔ (s.port p).activity = .ringing
  inService : ∀ p, (s.port p).service ≠ .active → (s.port p).activity ≠ .talking ∧ (s.port p).activity ≠ .ringing
  members : ∀ c b, s.Live c b → ∀ e ∈ b.ringingList, (s.boundPort e).isSome = true
  seated : ∀ c b, s.Live c b → ∀ role l, b.leg role = some l → (b.offer?.isSome = true → role = .calling) →
    ∃ e p, l.entry = some e ∧ l.port = some p ∧ s.boundPort e = some p
  awaiting : ∀ c b o, s.Live c b → b.offer? = some o → ∃ l, b.called = some l ∧ l.port = none ∧
    ∀ e, l.entry = some e → o.ringing = [e] ∧ o.remaining = []
  apart : ∀ c b, s.Live c b → b.legPorts.Nodup

/-- The contexts that belong to one leg and direction. -/
def State.contextsOf (s : State) (c : CallIx) (role : Role) (d : Direction) : List ContextRec :=
  s.contexts.toList.filterMap fun x => x.bind fun r => if r.call = c ∧ r.role = role ∧ r.direction = d then some r else none

/-- The contexts reserved by the calls that are not FREE (R94, R124). -/
def State.reservedContexts (s : State) : Nat := (s.calls.toList.map fun c => (c.body.map CallBody.reserved).getD 0).sum

/-- R96, R101, R124, R125, R130: every context that is not FREE belongs to a leg that holds contexts, a leg that holds contexts has one of
each direction, with the seed and the anchor of its call, and the free contexts and the reserved ones are 192 together. The legs of one
call hold alike, and a leg is PENDING until its call is CONNECTED. -/
structure State.ContextsOk (s : State) : Prop where
  owned : ∀ x r, s.context x = some r → ∃ b l, (s.call r.call).body = some b ∧ b.leg r.role = some l ∧ l.contexts = 2
  held : ∀ c b role l, (s.call c).body = some b → b.leg role = some l →
    (l.contexts = 0 ∧ ∀ d, s.contextsOf c role d = []) ∨
    (l.contexts = 2 ∧ ∀ d, ∃ r, s.contextsOf c role d = [r] ∧ r.variant = variantSeed b.seed role d ∧ r.anchor = b.anchor)
  alike : ∀ c b l l', (s.call c).body = some b → b.calling = some l → b.called = some l' → l.contexts = l'.contexts
  waiting : ∀ c b role l, (s.call c).body = some b → (b.offer?.isSome = true ∨ b.phase = .provisional) → b.leg role = some l →
    l.path = .pending
  counted : s.freeContexts.length + s.reservedContexts = 192

end Sys2Proof.Machine
end

