-- ==== Sys2Proof/Certificates/Slice0/Obligations.lean ====
section
/-! DEFINITION. The statements about the part: its queues and arbiter, every command's effect with what it leaves alone, the
encoding of requests, the scrambler, and what every step keeps. A statement that writes the next state as an update of `s` says
with that what stays as it was. -/

open Sys2Proof Sys2Proof.Machine

/-! ## The part as a whole -/

/-- A step runs the command at the front of the queue on the state whose queue is the rest. With no command waiting a millisecond passes
and nothing else changes: that the part's time is a count of milliseconds, and goes on so, is the model's choice (assumption 2). -/
def Obligations.StepTakesFrontCommandOrTicks : Prop :=
  (∀ (s : State) (c : Instr) (rest : List Instr), s.pending = c :: rest → step s = exec c { s with pending := rest }) ∧
  (∀ s : State, s.pending = [] → step s = .next { s with now := s.now + 1 })

/-- Every command answers a next state, and leaves the commands that wait as they are. That a command whose event cannot come about in
the state answers all the same is the model's choice (assumption 1); so is the queue `pending` itself, and that every command keeps it,
POWER_ON_RESET too (assumptions 4, 7). -/
def Obligations.EveryCommandAnswersAndKeepsPending : Prop :=
  ∀ (c : Instr) (s : State), ∃ t, exec c s = .next t ∧ t.pending = s.pending

/-- After power-on reset, whatever came before: the directory is empty, every group, port, bus, call, context and setting has its reset
value, the highway is LOST, the queue and both lists are empty, and a LINK RESET input that is asserted holds its side. That LISTEN keeps
its level and LINK RESET has the level the command brings is the model's choice (assumption 7); that the time and the serial numbers begin
at 0, no sweep has started and no frame is kept or being sent (`now`, `nextSerial`, `sweepStarted`, `prev`, `out`, `sending`) speaks of
fields of the model's own and is deduced (assumption 27). -/
def Obligations.PowerOnResetValues : Prop :=
  ∀ (ra rb : Bool) (s : State), ∃ t, exec (.powerOnReset ra rb) s = .next t ∧
    (∀ e, t.entry e = none) ∧
    (∀ g, t.group g = { members := [], policy := .all, cadence := 0, stepTime := 10 }) ∧
    (∀ p, t.port p =
      { service := .absent, hook := .on, activity := .idle, binding := none, gainIndex := none, pendingCount := 0,
        range := .fine, loopValue := 0, overRun := 0, leakRun := 0, faultFlag := false, leakageFlag := false, ring := none,
        drive := ⟨false, false⟩, lastDrive := none, lastGain := none, rewrite := false, held := false,
        eventsA := .empty, eventsB := .empty }) ∧
    (∀ k, (t.bus k).sweepNumber = 0 ∧ (t.bus k).sweepStarted = none ∧ (t.bus k).sweep = .waiting ∧
      (t.bus k).direct = none ∧ ∀ m, (t.bus k).modul m = ⟨false, 0⟩) ∧
    t.cadence 0 = ⟨1000, 2000, 255⟩ ∧ t.cadence 1 = ⟨500, 500, 255⟩ ∧ t.cadence 2 = ⟨250, 250, 255⟩ ∧
    t.cadence 3 = ⟨2000, 4000, 10⟩ ∧
    (∀ c, t.call c = ⟨0, none, none⟩) ∧
    (∀ x, t.context x = none) ∧
    t.highway = { state := .lost, count := 0, jumpCount := 0, position := none, high := none, announced := none, missed := 0,
                  prev := none, out := none } ∧
    t.queue = [] ∧ t.lastServed = .b ∧ t.now = 0 ∧ t.nextSerial = 0 ∧
    (∀ x, (t.link x).report = [] ∧ (t.link x).gathered = [] ∧ (t.link x).discarded = false ∧ (t.link x).sending = none ∧
      (t.link x).listen = (s.link x).listen) ∧
    t.linkA.linkReset = ra ∧ t.linkB.linkReset = rb ∧
    t.ready .a = !ra ∧ t.ready .b = !rb ∧
    t.settings = { offt := 1000, ont := 600, rtt := 3000, oct := 8000, leakt := 200, debounce := 3, faultMode := .retest,
                   retestInterval := 500, gainBase := 4000, gainStep := 125, gainTable := Vector.replicate 16 32,
                   sweepPeriod := 5, quietCode := 213, offerDefault := 30 }

/-! ## The request queue and the arbiter (09) -/

/-- R138 to R143: request bytes gather on their link, which ignores them while its LINK RESET is asserted; the byte that brings the count to
16 completes a frame, and the bytes after it come to the state that this leaves. A completed frame is taken exactly when its side's
outstanding count is below 8 and the queue holds fewer than 12 entries; the entry taken is the youngest and waits for the older entries
whose key sets conflict with its own. Otherwise the frame leaves no trace but its side's discarded flag. A side's outstanding count is of
its entries in the queue and its undelivered RESPONSEs, and its READY is asserted exactly when a frame would be taken and its LINK RESET is
not asserted. A key set names the records that R142's table gives its request, by operands in range, and DIRECTORY, PARAMETERS or ALL as the
table says; two key sets conflict when they share a key or either holds ALL. That the command brings bytes, in any number, that no frame is
completed and so none discarded under LINK RESET, and that a group or entry count of 5 to 7 gives no key, is the model's choice (assumptions
10, 11, 30). -/
def Obligations.RequestFrameTakenOrDiscarded : Prop :=
  (∀ (s : State) (x : Side) (bytes : List Byte),
    let l := s.link x
    (l.linkReset = true → exec (.requestFrame x bytes) s = .next s) ∧
    (l.linkReset = false → l.gathered.length + bytes.length < 16 →
      exec (.requestFrame x bytes) s = .next (s.setLink x { l with gathered := l.gathered ++ bytes })) ∧
    ∀ (f : Frame) (more : List Byte), l.linkReset = false → l.gathered.length < 16 →
      l.gathered ++ bytes =
        [f.tag, f.code, f.flags, f.b3, f.b4, f.b5, f.b6, f.b7, f.b8, f.b9, f.b10, f.b11, f.b12, f.b13, f.b14, f.b15] ++ more →
      exec (.requestFrame x bytes) s = exec (.requestFrame x more)
        (if s.queued x + s.undelivered x < 8 ∧ s.queue.length < 12 then
          { (s.setLink x { l with gathered := [] }) with
            queue := s.queue ++ [{ serial := s.nextSerial, side := x, frame := f, keys := keySet f,
                                   waits := (s.queue.filter fun e => conflict e.keys (keySet f)).map (·.serial),
                                   issued := false }]
            nextSerial := s.nextSerial + 1 }
        else s.setLink x { l with gathered := [], discarded := true })) ∧
  (∀ (f : Frame) (key : Key),
    let code := f.code.toNat
    let groups : List Byte := [f.b12, f.b13, f.b14, f.b15].take (f.flags.toNat % 8)
    let entries : List (Byte × Byte) := [(f.b7, f.b8), (f.b9, f.b10), (f.b11, f.b12), (f.b13, f.b14)].take (f.flags.toNat / 4 % 8)
    let offered := f.b3.toNat * 65536 + f.b4.toNat * 256 + f.b5.toNat
    let toGroup := f.flags.toNat / 2 % 2 = 1
    key ∈ keySet f ↔ match key with
      | .entry e =>
        (code ∈ [1, 2, 3, 4, 5, 7, 8, 17] ∧ e.val = f.b3.toNat * 256 + f.b4.toNat) ∨
        (code = 9 ∧ f.flags.toNat / 4 % 8 ≤ 4 ∧ ∃ v ∈ entries, e.val = v.1.toNat * 256 + v.2.toNat) ∨
        (code = 16 ∧ f.flags.toNat % 2 = 0 ∧ e.val = offered / 32768) ∨
        (code = 16 ∧ ¬toGroup ∧ e.val = offered / 64 % 512)
      | .group g =>
        (code = 1 ∧ f.flags.toNat % 8 ≤ 4 ∧ ∃ v ∈ groups, g.val = v.toNat) ∨
        (code ∈ [9, 10] ∧ g.val = f.b3.toNat) ∨ (code = 16 ∧ toGroup ∧ g.val = offered / 64 % 512)
      | .call c => code ∈ [18, 19, 20, 21] ∧ c.val = f.b3.toNat
      | .port p => code ∈ [33, 34, 35, 36, 37] ∧ p.val = f.b3.toNat
      | .bus k => code = 32 ∧ k.val = f.b3.toNat
      | .directory => code ∈ [1, 2, 5, 6]
      | .parameters => code ∈ [48, 49, 50, 51, 52, 53, 54, 55]
      | .all => code ∈ [64, 65]) ∧
  (∀ a b : List Key, conflict a b = true ↔ (∃ key ∈ a, key ∈ b) ∨ .all ∈ a ∨ .all ∈ b) ∧
  (∀ (s : State) (x : Side),
    s.queued x = (s.queue.filter fun q => decide (q.side = x)).length ∧
    s.undelivered x = (((s.link x).report.filterMap fun item => match item with
      | .response r => some r
      | .obj _ => none) : List Response).length ∧
    (s.ready x = true ↔ s.queued x + s.undelivered x < 8 ∧ s.queue.length < 12 ∧ (s.link x).linkReset = false))

/-- R144: the arbiter chooses an issuable entry with no older issuable entry of its own side, of the side not served last when
both sides have an issuable entry; it chooses none exactly when no entry is issuable. An entry is issuable when its wait list is
empty, it has not been issued and, for a LINE ACCESS to a bus in range, the direct slot of that bus is empty. What it chooses overtakes no
older request whose key set conflicts with its own. -/
def Obligations.ArbiterServesSidesInTurn : Prop :=
  ∀ s : State,
    (∀ q, s.issuable q = true ↔ q.waits = [] ∧ q.issued = false ∧
      ∀ k : BusIx, q.frame.code = 32#8 → q.frame.b3.toNat = k.val → (s.bus k).direct = none) ∧
    (s.arbiterChoice = none ↔ ∀ q ∈ s.queue, s.issuable q = false) ∧
    ∀ q, s.arbiterChoice = some q →
      s.issuable q = true ∧
      (∃ older younger, s.queue = older ++ q :: younger ∧ ∀ e ∈ older, e.side = q.side → s.issuable e = false) ∧
      (q.side = s.lastServed → ∀ e ∈ s.queue, e.side ≠ q.side → s.issuable e = false) ∧
      (s.OrderOk → ∀ older younger, s.queue = older ++ q :: younger → ∀ e ∈ older, conflict e.keys q.keys = false)

/-- R10, R145, R146, R147: a request issued with operands that cannot be read, or with an unknown code, is refused BAD-FIELD. Every request
but LINE ACCESS completes at its issue: it is refused with no record changed, or it is done and its RESPONSE with status DONE is in the
requester's list unless LINK RESET is held. Either way it leaves the queue, its serial leaves every wait list, and its side was served
last. -/
def Obligations.RequestsCompleteOrChangeNothing : Prop :=
  (∀ (c : Instr) (code : Byte) (readable : Frame → Bool) (s : State) (q : QueueEntry),
    requestOf c = some (code, readable) → s.Issues q code →
      (readable q.frame = false → exec c s = .next (s.refusedWith q .badField)) ∧
      (c ≠ .lineAccess →
        ∃ t, exec c s = .next t ∧ t.lastServed = q.side ∧ t.nextSerial = s.nextSerial ∧ t.now = s.now ∧
          t.queue = (s.queue.filter fun e => e.serial != q.serial).map (fun e =>
            { e with waits := e.waits.filter fun n =>
                !((s.queue.filter fun e => e.serial == q.serial).map (·.serial)).contains n }) ∧
          ((∃ status, status ≠ .done ∧ t = s.refusedWith q status) ∨
            (s.resetHeld q.side = false →
              ∃ result, .response ⟨q.frame.tag, .done, result⟩ ∈ (t.link q.side).report)))) ∧
  ∀ (s : State) (q : QueueEntry), s.arbiterChoice = some q →
    (∀ c code readable, requestOf c = some (code, readable) → code ≠ q.frame.code) →
      exec .unknownRequest s = .next (s.refusedWith q .badField)

/-! ## The directory (01) -/

/-- R3, R6: in a directory that keeps its law, each map takes a key to the entry that holds it, and to none when no entry holds
it. -/
def Obligations.DirectoryMapsFindTheHolder : Prop :=
  ∀ s : State, s.DirectoryOk →
    (∀ n e, s.identityMap n = some e ↔ ∃ r, s.entry e = some r ∧ r.identity = n) ∧
    (∀ n e, s.numberMap n = some e ↔ ∃ r, s.entry e = some r ∧ r.number = n) ∧
    (∀ p e, s.homeOf p = some e ↔ ∃ r, s.entry e = some r ∧ r.home = some p)

/-- R11: ENTER's checks in order, and its effect: the entry is ENTERED with the given fields and joins the tail of each named
group. No other entry, group or record changes. -/
def Obligations.EnterMakesAnEntry : Prop :=
  ∀ (s : State) (q : QueueEntry), s.Issues q 1#8 →
    (parseEnter q.frame = none → exec .enter s = .next (s.refusedWith q .badField)) ∧
    ∀ r, parseEnter q.frame = some r →
    ((s.entry r.entry).isSome = true → exec .enter s = .next (s.refusedWith q .inUse)) ∧
    (s.entry r.entry = none →
      ((s.identityMap r.identity).isSome = true ∨ (s.numberMap r.number).isSome = true ∨
        (∃ p ∈ r.home, (s.homeOf p).isSome = true)) →
      exec .enter s = .next (s.refusedWith q .duplicate)) ∧
    (s.entry r.entry = none → s.identityMap r.identity = none → s.numberMap r.number = none →
      (∀ p ∈ r.home, s.homeOf p = none) →
      ((∃ g ∈ r.groups, 16 ≤ (s.group g).members.length) → exec .enter s = .next (s.refusedWith q .noRoom)) ∧
      ((∀ g ∈ r.groups, (s.group g).members.length < 16) →
        ∃ t, exec .enter s = .next t ∧
          t = { s.completed q .done (bytes16 r.entry) [.entry r.entry] with entries := t.entries, groups := t.groups } ∧
          (∀ e, t.entry e =
            if e = r.entry then
              some { status := .entered, identity := r.identity, number := r.number, classes := r.classes,
                     handler := q.side, home := r.home, call := none, groups := r.groups }
            else s.entry e) ∧
          (∀ g, t.group g =
            if g ∈ r.groups then { s.group g with members := (s.group g).members ++ [r.entry] } else s.group g)))

/-- R12: AMEND's checks in order, and its effect: the marked fields are written and nothing else changes; the entry is marked when it
changed. That an unchanged entry is not marked is read from R146 (assumption 16). -/
def Obligations.AmendWritesMarkedFields : Prop :=
  ∀ (s : State) (q : QueueEntry), s.Issues q 2#8 →
    exec .amend s = .next (match parseAmend q.frame with
      | none => s.refusedWith q .badField
      | some a => match s.entry a.entry with
          | none => s.refusedWith q .noEntry
          | some r =>
            if r.handler ≠ q.side then s.refusedWith q .notHandler
            else if ∃ c ∈ a.classes, ∃ k ∈ r.call, ∃ b ∈ (s.call k).body,
                (r.classes.trunk = true ∧ c.trunk = false ∧ b.kind = .trunk) ∨ (c.scramble = .never ∧ b.mode ≠ .off) then
              s.refusedWith q .inUse
            else if ∃ n ∈ a.number, ∃ e ∈ s.numberMap n, e ≠ a.entry then s.refusedWith q .duplicate
            else if ∃ p, a.home = .set p ∧ ∃ e ∈ s.homeOf p, e ≠ a.entry then s.refusedWith q .duplicate
            else
              let r' : Entry := { r with
                classes := match a.classes with
                  | some c => c
                  | none => r.classes
                home := match a.home with
                  | .keep => r.home
                  | .set p => some p
                  | .clear => none
                number := match a.number with
                  | some n => n
                  | none => r.number }
              (s.setEntry a.entry (some r')).completed q .done (bytes16 a.entry) (if r' = r then [] else [.entry a.entry]))

/-- R13, R14, R33: BAR's checks in order, and its effect: the entry is BARRED, and the port it was bound to loses its binding; UNBAR's
checks in order, and its effect: a BARRED entry is ENTERED. -/
def Obligations.BarBarsAndUnbarReturns : Prop :=
  (∀ (s : State) (q : QueueEntry), s.Issues q 3#8 →
    exec .bar s = .next (match parseEntry q.frame with
      | none => s.refusedWith q .badField
      | some e => match s.entry e with
          | none => s.refusedWith q .noEntry
          | some r =>
            if r.handler ≠ q.side then s.refusedWith q .notHandler
            else if r.status = .barred then s.refusedWith q .state
            else if r.call.isSome then s.refusedWith q .inUse
            else
              let t := s.setEntry e (some { r with status := .barred })
              match r.boundPort with
              | none => t.completed q .done (bytes16 e) [.entry e]
              | some p =>
                (t.setPort p (s.unbound q.side .barred (s.port p))).completed q .done (bytes16 e) [.entry e, .port p])) ∧
  (∀ (s : State) (q : QueueEntry), s.Issues q 4#8 →
    exec .unbar s = .next (match parseEntry q.frame with
      | none => s.refusedWith q .badField
      | some e => match s.entry e with
          | none => s.refusedWith q .noEntry
          | some r =>
            if r.handler ≠ q.side then s.refusedWith q .notHandler
            else if r.status ≠ .barred then s.refusedWith q .state
            else (s.setEntry e (some { r with status := .entered })).completed q .done (bytes16 e) [.entry e]))

/-- R15, R33: REMOVE's checks in order, and its effect: the entry is VACANT, its port loses its binding, and it is in no member
list and no remaining list. Nothing else changes. -/
def Obligations.RemoveForgetsTheEntry : Prop :=
  ∀ (s : State) (q : QueueEntry), s.Issues q 5#8 →
    (parseEntry q.frame = none → exec .remove s = .next (s.refusedWith q .badField)) ∧
    ∀ e, parseEntry q.frame = some e →
    (s.entry e = none → exec .remove s = .next (s.refusedWith q .noEntry)) ∧
    ∀ r, s.entry e = some r →
      (r.handler ≠ q.side → exec .remove s = .next (s.refusedWith q .notHandler)) ∧
      (r.handler = q.side → r.call.isSome = true → exec .remove s = .next (s.refusedWith q .inUse)) ∧
      (r.handler = q.side → r.call = none →
        ∃ t, exec .remove s = .next t ∧
          t = { s.completed q .done (bytes16 e) (.entry e :: r.boundPort.toList.map .port) with
            entries := t.entries, groups := t.groups, ports := t.ports, calls := t.calls } ∧
          (∀ f, t.entry f = if f = e then none else s.entry f) ∧
          (∀ g, t.group g = { s.group g with members := (s.group g).members.filter (· ≠ e) }) ∧
          (∀ p, t.port p = if r.boundPort = some p then s.unbound q.side .unknown (s.port p) else s.port p) ∧
          (∀ c, t.call c = { s.call c with body := (s.call c).body.map fun b =>
            match b.phase with
            | .offered o => { b with phase := .offered { o with remaining := o.remaining.filter (· ≠ e) } }
            | _ => b }))

/-- R16, R17, R19, R105: LOOKUP, READ ENTRY, READ GROUP and READ CALL answer DONE with what their rules name, and change nothing;
LOOKUP of a key no entry holds answers NO-ENTRY. That READ CALL, which carries no generation, is answered DONE whatever the call's
generation is, where R160's closing words say NO-CALL, is the model's choice (assumption 31). -/
def Obligations.ReadsChangeNothing : Prop :=
  (∀ (s : State) (q : QueueEntry) (k : LookupKey), s.Issues q 6#8 → parseLookup q.frame = some k →
    exec .lookup s = .next (match (match k with
        | .identity n => s.identityMap n
        | .number n => s.numberMap n) with
      | none => s.refusedWith q .noEntry
      | some e => s.completed q .done (bytes16 e ++ [match (s.entry e).map Entry.status with
          | none => 0
          | some .entered => 1
          | some (.bound _) => 2
          | some .barred => 3]) [])) ∧
  (∀ (s : State) (q : QueueEntry) (e : EntryIx), s.Issues q 7#8 → parseEntry q.frame = some e →
    exec .readEntry s = .next (s.completed q .done (entryBlock (s.entry e)) [])) ∧
  (∀ (s : State) (q : QueueEntry) (r : ReadGroupArgs), s.Issues q 10#8 → parseReadGroup q.frame = some r →
    exec .readGroup s = .next (s.completed q .done
      ([b8 (s.group r.group).members.length,
        b8 (policyCode (s.group r.group).policy + (s.group r.group).cadence.val * 2), b8 (s.group r.group).stepTime] ++
        fourEntries (s.group r.group).members r.part) [])) ∧
  (∀ (s : State) (q : QueueEntry) (r : ReadCallArgs), s.Issues q 21#8 → parseReadCall q.frame = some r →
    exec .readCall s = .next (s.completed q .done (callPart s r.call r.part) []))

/-- R9, R18: SET GROUP's checks in order, an entry given twice refused under every form, and its effect by form: the settings or the
member list of the group, and the groups list of every entry that joined or left. Those entries are marked, in index order. -/
def Obligations.SetGroupKeepsMembershipTogether : Prop :=
  ∀ (s : State) (q : QueueEntry) (g : GroupIx) (form : GroupForm), s.Issues q 9#8 →
    parseSetGroup q.frame = some ⟨g, form⟩ →
    let old := (s.group g).members
    let full (e : EntryIx) : Prop := ∃ r ∈ s.entry e, 4 ≤ r.groups.length
    let kept (es : List EntryIx) : List EntryIx := es.take (16 - old.length)
    let refusal : Option Status := match form with
      | .settings _ _ _ es => if ¬es.Nodup then some .duplicate else none
      | .replace es =>
        if ∃ e ∈ es, s.entry e = none then some .noEntry
        else if ¬es.Nodup then some .duplicate
        else if ∃ e ∈ es, e ∉ old ∧ full e then some .noRoom
        else none
      | .append es =>
        if ∃ e ∈ es, s.entry e = none then some .noEntry
        else if ¬es.Nodup ∨ ∃ e ∈ es, e ∈ old then some .duplicate
        else if ∃ e ∈ kept es, full e then some .noRoom
        else none
      | .drop es =>
        if ∃ e ∈ es, e ∉ old then some .noEntry
        else if ¬es.Nodup then some .duplicate
        else none
    let new : List EntryIx := match form with
      | .settings _ _ _ _ => old
      | .replace es => es
      | .append es => old ++ kept es
      | .drop es => old.filter (· ∉ es)
    match refusal with
    | some status => exec .setGroup s = .next (s.refusedWith q status)
    | none =>
      ∃ t, exec .setGroup s = .next t ∧
        t = { s.completed q .done [b8 new.length]
              (((List.finRange 512).filter fun e => decide (e ∈ old) != decide (e ∈ new)).map .entry) with
            entries := t.entries, groups := t.groups } ∧
        (∀ h, t.group h =
          if h = g then
            match form with
            | .settings p c time _ => ⟨new, p, c, max 2 (min 60 time.toNat)⟩
            | _ => { s.group g with members := new }
          else s.group h) ∧
        (∀ e, t.entry e = (s.entry e).map fun r =>
          if e ∈ new ∧ e ∉ old then { r with groups := r.groups ++ [g] }
          else if e ∈ old ∧ e ∉ new then { r with groups := r.groups.filter (· ≠ g) }
          else r)

/-! ## Calls and offers (05, 06) -/

/-- R99, R83: scramble resolution takes a requested mode and the scramble classes of the local parties: ALWAYS with NEVER is refused, ALWAYS
alone resolves to REQUIRED, NEVER alone refuses REQUIRED and resolves any other mode to OFF, and else the requested mode stands. A further
party is compatible with the resolved mode, leaving it unchanged and not refused, exactly as R83's table says. An entry is an eligible
member exactly when it is BOUND, its port is ACTIVE with hook ON and activity IDLE, its call field is absent, its call classes fit the kind
and the target, and its scramble class is compatible. -/
def Obligations.ResolutionAndEligibility : Prop :=
  (∀ (requested : Mode) (parties : List ScrambleClass),
    (.always ∈ parties → .never ∈ parties → resolveMode requested parties = none) ∧
    (.always ∈ parties → .never ∉ parties → resolveMode requested parties = some .required) ∧
    (.always ∉ parties → .never ∈ parties →
      resolveMode requested parties = if requested = .required then none else some .off) ∧
    (.always ∉ parties → .never ∉ parties → resolveMode requested parties = some requested) ∧
    ∀ (resolved : Mode) (further : ScrambleClass), resolveMode requested parties = some resolved →
      (resolveMode requested (further :: parties) = some resolved ↔
        match resolved, further with
        | .off, .never => True
        | .off, .allowed => True
        | .off, .always => False
        | .preferred, .never => False
        | .preferred, .allowed => True
        | .preferred, .always => False
        | .required, .never => False
        | .required, .allowed => True
        | .required, .always => True)) ∧
  (∀ (s : State) (kind : CallKind) (target : Target) (mode : Mode) (e : EntryIx),
    s.eligible kind target mode e = true ↔
      ∃ r p, s.entry e = some r ∧ r.status = .bound p ∧
        (s.port p).service = .active ∧ (s.port p).hook = .on ∧ (s.port p).activity = .idle ∧
        r.call = none ∧ ((∃ g, target = .group g) → r.classes.group = true) ∧ (kind = .trunk → r.classes.trunk = true) ∧
        match mode with
        | .off => r.classes.scramble ≠ .always
        | .preferred => r.classes.scramble = .allowed
        | .required => r.classes.scramble ≠ .never)

/-- R82, R84, R85: OFFER's checks in order, and its effect: the lowest FREE record is an OFFERED call with its legs, contexts and offer,
the caller's port is TALKING, and the members of the ringing list ring. R95: the record taken is the lowest-numbered one that is FREE. R98:
a send slot is held when it is that of a leg of a call that is not FREE. A directed offer has policy ALL and step time 0 in the model
(assumption 26). -/
def Obligations.OfferMakesAnOfferedCall : Prop :=
  (∀ s : State,
    (s.freeCall = none ↔ ∀ c, (s.call c).body.isSome = true) ∧
    (∀ c, s.freeCall = some c ↔ (s.call c).body = none ∧ ∀ d, d < c → (s.call d).body.isSome = true) ∧
    (∀ n, s.slotHeld n = true ↔ ∃ c b role l, (s.call c).body = some b ∧ b.leg role = some l ∧ l.send = n) ∧
    s.freeContexts = (List.finRange 192).filter (fun x => (s.context x).isNone) ∧
    ∀ e p, s.boundPort e = some p ↔ ∃ r, s.entry e = some r ∧ r.status = .bound p) ∧
  ∀ (s : State) (q : QueueEntry) (r : OfferArgs), s.Issues q 16#8 → parseOffer q.frame = some r →
    let kind : CallKind := if r.calling = none then .trunk else .internal
    let caller : Option Entry := r.calling.bind fun p => s.entry p.entry
    let target : Option Entry := match r.target with
      | .entry e => s.entry e
      | .group _ => none
    let directed : Bool := match r.target with
      | .entry _ => true
      | .group _ => false
    let legs := if r.calling = none then 1 else 2
    let enough := decide (2 * legs ≤ s.freeContexts.length)
    let classes := (caller.toList ++ target.toList).map fun e => e.classes.scramble
    exec .offer s = .next (
      if (r.calling.isSome = true ∧ caller = none) ∨ (directed = true ∧ target = none) then s.refusedWith q .noEntry
      else if (∃ e ∈ caller, e.handler ≠ q.side) ∨ (r.calling = none ∧ ∃ e ∈ target, e.handler ≠ q.side) then
        s.refusedWith q .notHandler
      else if ∃ e ∈ caller, ∀ p, ¬(e.status = .bound p ∧ (s.port p).service = .active ∧ (s.port p).activity = .originating) then
        s.refusedWith q .state
      else match s.freeCall with
      | none => s.refusedWith q .noRoom
      | some c =>
        if s.slotHeld r.calledSend = true ∨ ∃ p ∈ r.calling, s.slotHeld p.send = true ∨ p.send = r.calledSend then
          s.refusedWith q .inUse
        else if ∃ e ∈ target, e.classes.directed = false ∨ (r.calling = none ∧ e.classes.trunk = false) then
          s.refusedWith q .clas
        else match resolveMode r.mode classes with
        | none => s.refusedWith q .clas
        | some m =>
          let eligible (e : EntryIx) : Bool := s.eligible kind r.target m e
          let members : List EntryIx := match r.target with
            | .entry e => [e]
            | .group g => (s.group g).members
          let policy : Policy := match r.target with
            | .entry _ => .all
            | .group g => (s.group g).policy
          let stepTime := match r.target with
            | .entry _ => 0
            | .group g => (s.group g).stepTime
          let fromFirst := members.dropWhile fun e => !eligible e
          let ringing := if policy = .all then members.filter eligible else fromFirst.take 1
          let remaining := if policy = .all then [] else fromFirst.drop 1
          if m = .required ∧ enough = false then s.refusedWith q .noRoom
          else if ringing = [] then s.refusedWith q .noMember
          else
            let held := if m = .off ∨ enough = false then 0 else 2
            let cadence : CadenceIx := match r.cadence, r.target with
              | some i, _ => i
              | none, .group g => (s.group g).cadence
              | none, .entry _ => 0
            let offer : Offer :=
              { target := r.target, policy := policy, ringing := ringing, remaining := remaining, cadence := cadence,
                stepTime := stepTime
                offerExpiry := s.now + 1000 * (match r.expiry with
                  | some v => max 5 (min 255 v.toNat)
                  | none => s.settings.offerDefault)
                stepExpiry := if policy = .sequential then some (s.now + stepTime * 1000) else none }
            let body : CallBody :=
              { phase := .offered offer, handler := q.side, kind := kind, seed := r.seed
                anchor := match r.anchor with
                  | some a => a
                  | none => s.highway.count
                mode := m, degraded := decide (m = .preferred ∧ enough = false)
                calling := r.calling.map fun p =>
                  { port := s.boundPort p.entry, entry := some p.entry, send := p.send, recv := p.recv, path := .pending,
                    contexts := held }
                called := some
                  { port := none
                    entry := match r.target with
                      | .entry e => some e
                      | .group _ => none
                    send := r.calledSend, recv := r.calledRecv, path := .pending, contexts := held } }
            let generation := (s.call c).generation + 1
            let t1 := s.setCall c { generation := generation, lastReason := none, body := some body }
            let t2 := if held = 0 then t1 else t1.withContextsFor c body
            let t3 : State := { t2 with
              entries := mapIx (fun e x => if r.calling.any (·.entry == e) then x.map fun x => { x with call := some c } else x)
                s.entries
              ports := mapIx (fun p x => if s.isPortOf (r.calling.toList.map (·.entry)) p then { x with activity := .talking }
                else x) s.ports }
            (t3.rung c cadence ringing).completed q .done [b8 c, generation, b8 (modeCode m)]
              (orderObjs ((r.calling.toList.map (·.entry) ++ ringing).flatMap (fun e =>
                .entry e :: (s.boundPort e).toList.map .port) ++ [.call c])))

/-- R102: CONNECT TRUNK's checks in order, and its effect: the lowest FREE record is a PROVISIONAL TRUNK call with one leg, the
entry's port is TALKING and its call field names the call. R95, R98: a record taken is FREE with none FREE below it, and a send slot is
held when it is that of a leg of a call that is not FREE. -/
def Obligations.ConnectTrunkMakesAProvisionalCall : Prop :=
  (∀ s : State,
    (s.freeCall = none ↔ ∀ c, (s.call c).body.isSome = true) ∧
    (∀ c, s.freeCall = some c ↔ (s.call c).body = none ∧ ∀ d, d < c → (s.call d).body.isSome = true) ∧
    (∀ n, s.slotHeld n = true ↔ ∃ c b role l, (s.call c).body = some b ∧ b.leg role = some l ∧ l.send = n)) ∧
  ∀ (s : State) (q : QueueEntry), s.Issues q 17#8 →
    exec .connectTrunk s = .next (match parseTrunk q.frame with
      | none => s.refusedWith q .badField
      | some r => match s.entry r.entry with
          | none => s.refusedWith q .noEntry
          | some e =>
            if e.handler ≠ q.side then s.refusedWith q .notHandler
            else match e.status with
            | .entered => s.refusedWith q .state
            | .barred => s.refusedWith q .state
            | .bound p =>
              let port := s.port p
              if ¬(port.service = .active ∧ (port.activity = .originating ∨
                  (r.role = .called ∧ port.activity = .idle ∧ port.hook = .on))) then s.refusedWith q .state
              else match s.freeCall with
              | none => s.refusedWith q .noRoom
              | some c =>
                if s.slotHeld r.send = true then s.refusedWith q .inUse
                else if e.classes.trunk = false then s.refusedWith q .clas
                else match resolveMode r.mode [e.classes.scramble] with
                | none => s.refusedWith q .clas
                | some m =>
                  let enough := decide (2 ≤ s.freeContexts.length)
                  if m = .required ∧ enough = false then s.refusedWith q .noRoom
                  else
                    let held := if m = .off ∨ enough = false then 0 else 2
                    let leg : Leg := { port := some p, entry := some r.entry, send := r.send, recv := r.recv, path := .pending,
                                       contexts := held }
                    let body : CallBody :=
                      { phase := .provisional, handler := q.side, kind := .trunk, seed := r.seed
                        anchor := match r.anchor with
                          | some a => a
                          | none => s.highway.count
                        mode := m, degraded := decide (m = .preferred ∧ enough = false)
                        calling := if r.role = .calling then some leg else none
                        called := if r.role = .called then some leg else none }
                    let generation := (s.call c).generation + 1
                    let t1 := s.setCall c { generation := generation, lastReason := none, body := some body }
                    let t2 := if held = 0 then t1 else t1.withContextsFor c body
                    ((t2.setPort p { port with activity := .talking }).setEntry r.entry (some { e with call := some c })).completed
                      q .done [b8 c, generation, b8 (modeCode m)] [.entry r.entry, .port p, .call c])

/-- R103: CONFIRM's checks in order, and its effect: the PROVISIONAL call is CONNECTED. -/
def Obligations.ConfirmConnects : Prop :=
  ∀ (s : State) (q : QueueEntry), s.Issues q 18#8 →
    exec .confirm s = .next (match parseConfirm q.frame with
      | none => s.refusedWith q .badField
      | some r => match (s.call r.call).body with
          | none => s.refusedWith q .noCall
          | some b =>
            if (s.call r.call).generation ≠ r.generation then s.refusedWith q .noCall
            else if b.handler ≠ q.side then s.refusedWith q .notHandler
            else if b.phase ≠ .provisional then s.refusedWith q .state
            else (s.setCall r.call { s.call r.call with body := some { b with phase := .connected } }).completed q .done
              [b8 r.call, r.generation, b8 (modeCode b.mode)] [.call r.call])

/-- R104: SCRAMBLE's checks in order, and its effect by the resolved mode and by whether the call holds contexts. The call is marked when
its record changed. That an unchanged call is not marked is read from R146 (assumption 16). -/
def Obligations.ScrambleChangesMode : Prop :=
  ∀ (s : State) (q : QueueEntry), s.Issues q 19#8 →
    exec .scramble s = .next (match parseScramble q.frame with
      | none => s.refusedWith q .badField
      | some r => match (s.call r.ref.call).body with
          | none => s.refusedWith q .noCall
          | some b =>
            if (s.call r.ref.call).generation ≠ r.ref.generation then s.refusedWith q .noCall
            else if b.handler ≠ q.side then s.refusedWith q .notHandler
            else if b.phase ≠ .connected then s.refusedWith q .state
            else match resolveMode r.mode ((b.legEntries.filterMap s.entry).map fun e => e.classes.scramble) with
            | none => s.refusedWith q .clas
            | some m =>
              let holds := (b.calling.toList ++ b.called.toList).any fun l => l.contexts != 0
              let enough := decide (2 * (b.calling.toList ++ b.called.toList).length ≤ s.freeContexts.length)
              if m = .required ∧ holds = false ∧ enough = false then s.refusedWith q .noRoom
              else
                let give (l : Leg) : Leg := { l with contexts := 2 }
                let b' : CallBody :=
                  if m = .off then { b with mode := .off, degraded := false }
                  else if holds = true then { b with mode := m }
                  else if enough = true then
                    { b with mode := m, degraded := false, calling := b.calling.map give, called := b.called.map give }
                  else { b with mode := m, degraded := true }
                let t := s.setCall r.ref.call { s.call r.ref.call with body := some b' }
                (if m ≠ .off ∧ holds = false ∧ enough = true then t.withContextsFor r.ref.call b' else t).completed q .done
                  [b8 r.ref.call, r.ref.generation, b8 (modeCode m)] (if b' = b then [] else [.call r.ref.call]))

/-- R107, R108, R109: RELEASE of a FREE call or with another generation is answered NO-CALL, of a RELEASING call DONE with no change; a
live call is released, and while the highway is LOST it is FREE at once and marked in both lists. The mark in both lists while LOST is
read from R108 (assumption 14). That the mode in the result is the one before the release, also while LOST, is the model's choice
(assumption 29). -/
def Obligations.ReleaseEndsALiveCall : Prop :=
  ∀ (s : State) (q : QueueEntry) (r : ReleaseArgs), s.Issues q 20#8 → parseRelease q.frame = some r →
    let c := r.ref.call
    (((s.call c).body = none ∨ (s.call c).generation ≠ r.ref.generation) →
      exec .release s = .next (s.refusedWith q .noCall)) ∧
    ∀ b, (s.call c).body = some b → (s.call c).generation = r.ref.generation →
      let result := [b8 c, r.ref.generation, b8 (modeCode b.mode)]
      (b.phase = .releasing → exec .release s = .next (s.completed q .done result [])) ∧
      (b.phase ≠ .releasing →
        let t := (s.released c b (if r.highway then .highway else .request)).completed q .done result
          (orderObjs (s.releaseMarks c b))
        exec .release s = .next (t.setLink q.side ((t.link q.side).marked (s.freedCalls t))))

/-- R78, R85: a port whose entry begins to ring is RINGING, with phase ON, the cycle count of its cadence, the on time of that cadence from
now as its phase expiry, and ring on in its desired drive. R80, R23: a port that stops ringing has no ring state and ring off in its desired
drive, its feed unchanged; it is IDLE with no gain index if it was RINGING. The ports of the entries that begin or stop ringing together are
these, and no others. R79, R88: a phase expiry of a ringing port: ON goes OFF, OFF goes ON with a cycle fewer unless the count is 255, and
when the cycles are spent the port is IDLE and its entry leaves the ringing list. A port without ring state has no phase expiry. The part's
time is then at least the expiry, and a timer that is not running does nothing: the model's choices (assumptions 1, 2). -/
def Obligations.RingingStartsAlternatesAndStops : Prop :=
  (∀ (s : State) (c : CallIx) (i : CadenceIx) (es : List EntryIx) (p : PortIx),
    (s.rung c i es).port p =
      (if ∃ e ∈ es, s.boundPort e = some p then
        { s.port p with
          ring := some { cadence := i, phaseOn := true, cyclesLeft := (s.cadence i).cycles, expiry := s.now + (s.cadence i).onTime }
          drive := { feed := (s.port p).drive.feed, ring := true }
          activity := .ringing }
      else s.port p) ∧
    (s.hushed c es).port p =
      (if ∃ e ∈ es, s.boundPort e = some p then
        { s.port p with
          ring := none
          drive := { feed := (s.port p).drive.feed, ring := false }
          activity := if (s.port p).activity = .ringing then .idle else (s.port p).activity
          gainIndex := if (s.port p).activity = .ringing then none else (s.port p).gainIndex }
      else s.port p)) ∧
  ∀ (s : State) (p : PortIx),
    ((s.port p).ring = none → exec (.ringPhaseExpiry p) s = .next s) ∧
    ∀ g, (s.port p).ring = some g →
      let s1 : State := { s with now := max s.now g.expiry }
      let r := s.port p
      let goOn (left : Nat) : State := s1.setPort p { r with
        ring := some { g with phaseOn := true, cyclesLeft := left, expiry := s1.now + (s.cadence g.cadence).onTime }
        drive := { r.drive with ring := true } }
      (g.phaseOn = true → exec (.ringPhaseExpiry p) s = .next (s1.setPort p { r with
        ring := some { g with phaseOn := false, expiry := s1.now + (s.cadence g.cadence).offTime }
        drive := { r.drive with ring := false } })) ∧
      (g.phaseOn = false → g.cyclesLeft = 255 → exec (.ringPhaseExpiry p) s = .next (goOn 255)) ∧
      (g.phaseOn = false → g.cyclesLeft ≠ 255 → 2 ≤ g.cyclesLeft →
        exec (.ringPhaseExpiry p) s = .next (goOn (g.cyclesLeft - 1))) ∧
      (g.phaseOn = false → g.cyclesLeft < 2 →
        let s2 := s1.setPort p { r with
          ring := none
          drive := { feed := r.drive.feed, ring := false }
          activity := if r.activity = .ringing then .idle else r.activity
          gainIndex := if r.activity = .ringing then none else r.gainIndex }
        exec (.ringPhaseExpiry p) s = .next (match s.ringingOn p with
          | none => s2.markedBoth [.port p]
          | some (c, e) =>
            match (s.call c).body with
            | some b =>
              match b.phase with
              | .offered o =>
                let gone := s2.memberGone c b o e false
                gone.1.markedBoth (orderObjs (.port p :: gone.2))
              | _ => s2
            | none => s2))

/-- R86, R87, R89: a step expiry hushes the ringing member and the next eligible member of the remaining list rings, or the call is
released NO-ANSWER; an offer expiry releases the call NO-ANSWER. Without the expiry nothing falls due. The part's time is then at least
the expiry, and a timer that is not running does nothing: the model's choices (assumptions 1, 2). -/
def Obligations.OfferTimersStepAndRelease : Prop :=
  (∀ (s : State) (c : CallIx),
    (((s.call c).body.bind CallBody.offer?).bind Offer.stepExpiry = none →
      exec (.stepExpiry c) s = .next s) ∧
    ∀ b, (s.call c).body = some b → ∀ o, b.offer? = some o → ∀ time, o.stepExpiry = some time →
      let s1 : State := { s with now := max s.now time }
      let o' := { o with ringing := [] }
      let b' := { b with phase := .offered o' }
      let s2 := (s1.setCall c { s.call c with body := some b' }).hushed c o.ringing
      let next := s2.stepped c b' o'
      exec (.stepExpiry c) s = .next (next.1.markedBoth
        (orderObjs (s.marksOf o.ringing (some c) ++ .call c :: next.2)))) ∧
  (∀ (s : State) (c : CallIx),
    ((s.call c).body.bind CallBody.offer? = none → exec (.offerExpiry c) s = .next s) ∧
    ∀ b, (s.call c).body = some b → ∀ o, b.offer? = some o →
      let s1 : State := { s with now := max s.now o.offerExpiry }
      exec (.offerExpiry c) s = .next ((s1.released c b .noAnswer).markedBoth (orderObjs (s.releaseMarks c b))))

/-! ## Line buses and ports (03) -/

/-- R51: a LINE ACCESS with operands in range takes the direct slot of its bus and stays in the queue, ISSUED. The direct transaction starts
when the slot is taken and the bus is free, before its next visit or probe or between two sweeps; otherwise none starts. A bus is free
exactly when it waits for its next sweep or stands between two visits or probes of one; a transaction runs exactly from its start. That the
command does nothing when no transaction can start is the model's choice (assumption 1). -/
def Obligations.LineAccessTakesTheSlotAndStarts : Prop :=
  (∀ b : Bus,
    (b.isFree = true ↔ b.sweep = .waiting ∨ ∃ m l, b.sweep = .between m l) ∧
    (b.directRuns = true ↔ ∃ d, b.direct = some d ∧ d.started = true)) ∧
  (∀ (s : State) (q : QueueEntry) (r : LineArgs), s.Issues q 32#8 → parseLine q.frame = some r →
    exec .lineAccess s = .next { s with
      buses := s.buses.set r.bus { s.bus r.bus with direct := some ⟨some q.serial, r.modul, r.item, r.write, false⟩ }
      queue := s.queue.map fun e => if e.serial = q.serial then { e with issued := true } else e
      lastServed := q.side }) ∧
  (∀ (s : State) (k : BusIx),
    (∀ d, (s.bus k).direct = some d → d.started = false → (s.bus k).isFree = true →
      exec (.directTransactionStart k) s = .next { s with
        buses := s.buses.set k { s.bus k with direct := some { d with started := true } } }) ∧
    (((s.bus k).direct = none ∨ (s.bus k).directRuns = true ∨ (s.bus k).isFree = false) →
      exec (.directTransactionStart k) s = .next s))

/-- R40, R42, R52: a direct transaction that ends. Replied: the module's count returns to 0, and the LINE ACCESS completes DONE, with the
value read for a READ. NO-REPLY: a PRESENT module's count grows by 1, the third in a row makes it ABSENT and takes its four ports out of
service, and the LINE ACCESS completes NO-REPLY with no result. Either way a WRITE to a drive or gain item of a PRESENT module sets the
rewrite flag of the port on that line, the slot is emptied and a waiting sweep goes on; a request that LINK RESET discarded gets no
RESPONSE, and all else happens. That the RESPONSE joins the requester's list before what a module loss marks, and that the loss leaves the
rewrite flag clear, is deduced (assumptions 12, 13), and so is that the four ports of a lost module go port by port in ascending line
order, each whole before the next (assumption 17), and that a waiting sweep which goes on does not probe the module just lost (assumption
9); that LINE_ACCESS_DONE does nothing with no transaction in progress is the model's choice (assumption 1). -/
def Obligations.DirectTransactionsEnd : Prop :=
  ∀ (s : State) (k : BusIx),
    ((s.bus k).directRuns = false → ∀ value, exec (.lineAccessDone k value) s = .next s) ∧
    ∀ d, (s.bus k).direct = some d → d.started = true →
      let module := (s.bus k).modul d.modul
      let line : LineIx := ⟨d.item.val / 8, by omega⟩
      let p := portOf k d.modul line
      let flagged : State :=
        if d.write.isSome = true ∧ (d.item.val % 8 = 2 ∨ d.item.val % 8 = 3) ∧ module.present = true then
          s.setPort p { s.port p with rewrite := true }
        else s
      let freed (t : State) : State := t.setBus k (match (t.bus k).sweep with
        | .between m l => { t.bus k with direct := none }.goOn m.val l
        | _ => { t.bus k with direct := none })
      let answered (t : State) (status : Status) (result : List Byte) : State :=
        match d.owner.bind fun n => s.queue.find? fun e => e.serial == n with
        | none => t
        | some q => { t.completed q status result [] with lastServed := s.lastServed }
      (∀ value : Word16, exec (.lineAccessDone k value) s = .next (answered (freed (flagged.replied k d.modul)) .done
        (match d.write with
          | some _ => []
          | none => [b8 (value.toNat / 256), b8 value.toNat]))) ∧
      ∀ lowReplied : Bool,
        (module.present = false → exec (.transactionNoReply k lowReplied) s = .next (answered (freed flagged) .noReply [])) ∧
        (module.present = true → module.noReply < 2 → exec (.transactionNoReply k lowReplied) s = .next
          (answered (freed (flagged.setBus k ((s.bus k).setModule d.modul ⟨true, module.noReply + 1⟩))) .noReply [])) ∧
        (module.present = true → 2 ≤ module.noReply →
          let lost := flagged.moduleLost k d.modul
          exec (.transactionNoReply k lowReplied) s = .next ((answered (freed lost.1) .noReply []).markedBoth (orderObjs lost.2)) ∧
          (s.BindingsOk → (lost.1.port p).rewrite = false))

/-- R44, R45, R51: a sweep starts on a bus that waits for one, no earlier than a sweep period after its last start, with the first module
that is PRESENT, or in a probe sweep with module 0; with no such module it ends at once; while a sweep is in progress, or a request holds
the direct slot, none starts. After a visit the next line of a PRESENT module comes, then the next module that is PRESENT or, in a probe
sweep, the next module; after the last the sweep ends and its number advances. With a request in the direct slot the bus waits before what
comes. After a probe of module m the sweep goes on in the same way from module m + 1. That the command does nothing when no sweep can
start, that the part's time reaches the start, and that a taken slot holds the start back are the model's choices (assumptions 1, 2,
18). -/
def Obligations.SweepsVisitInOrder : Prop :=
  (∀ (s : State) (k : BusIx),
    (((s.bus k).sweep ≠ .waiting ∨ (s.bus k).direct ≠ none) → exec (.sweepStart k) s = .next s) ∧
    ((s.bus k).sweep = .waiting → (s.bus k).direct = none →
      let now := match (s.bus k).sweepStarted with
        | some t => max s.now (t + s.settings.sweepPeriod)
        | none => s.now
      let b := { s.bus k with sweepStarted := some now }
      ((∀ m, (b.modul m).present = false) → b.sweepNumber ≠ 0 →
        exec (.sweepStart k) s = .next { s with
          now := now, buses := s.buses.set k { b with sweepNumber := b.sweepNumber + 1 } }) ∧
      (∀ m, (b.modul m).present = true → (∀ i, i < m → (b.modul i).present = false) → (b.sweepNumber ≠ 0 ∨ m = 0) →
        exec (.sweepStart k) s = .next { s with now := now, buses := s.buses.set k { b with sweep := .visit m 0 .loop } }) ∧
      ((b.modul 0).present = false → b.sweepNumber = 0 →
        exec (.sweepStart k) s = .next { s with now := now, buses := s.buses.set k { b with sweep := .probe 0 } }))) ∧
  (∀ (b : Bus) (m : ModuleIx) (l : LineIx),
    (∀ l' : LineIx, (b.modul m).present = true → l'.val = l.val + 1 →
      (b.direct = none → b.afterVisit m l = { b with sweep := .visit m l' .loop }) ∧
      (b.direct ≠ none → b.afterVisit m l = { b with sweep := .between m l' })) ∧
    let onward (after : Bus) : Prop :=
      (∀ n : ModuleIx, m < n → ((b.modul n).present = true ∨ b.sweepNumber = 0) →
        (∀ i, m < i → i < n → (b.modul i).present = false ∧ b.sweepNumber ≠ 0) →
        (b.direct = none → after = { b with sweep := if (b.modul n).present then .visit n 0 .loop else .probe n }) ∧
        (b.direct ≠ none → ∃ i : ModuleIx, i.val = m.val + 1 ∧ after = { b with sweep := .between i 0 })) ∧
      ((∀ n, m < n → (b.modul n).present = false ∧ b.sweepNumber ≠ 0) ∨ m = 15 →
        after = { b with sweep := .waiting, sweepNumber := b.sweepNumber + 1 })
    (((b.modul m).present = false ∨ l = 3) → onward (b.afterVisit m l)) ∧ onward (b.goOn (m.val + 1) 0))

/-- R46, R50: a drive write that replied makes its value the last-written drive, for a BLOCKED port clears the rewrite flag, and step 5
follows; a gain write that replied makes its code the last-written gain, clears the rewrite flag when the drive write of the visit replied
too, and ends the visit. That a write carries the value it was started with is the model's choice (assumption 21), and so is that a command
which ends a transaction of a sweep does nothing when no such transaction is in progress: either write in another step, in no visit or while
a direct transaction runs, and the readings, the probe reply and the NO-REPLY likewise (assumption 1). -/
def Obligations.DriveAndGainWritesAreRemembered : Prop :=
  (∀ (s : State) (k : BusIx),
    (((s.bus k).directRuns = true ∨ ∀ m l step, (s.bus k).sweep ≠ .visit m l step) →
      exec (.driveWrite k) s = .next s ∧ exec (.gainWrite k) s = .next s) ∧
    (((s.bus k).directRuns = true ∨ ∀ m l, (s.bus k).sweep ≠ .visit m l .loop) →
      ∀ reading, exec (.loopReading k reading) s = .next s) ∧
    (((s.bus k).directRuns = true ∨ ∀ m l, (s.bus k).sweep ≠ .visit m l .identity) →
      ∀ low high, exec (.identityRead k low high) s = .next s) ∧
    (((s.bus k).directRuns = true ∨ ∀ m, (s.bus k).sweep ≠ .probe m) →
      ∀ value, exec (.probeReply k value) s = .next s) ∧
    ((s.bus k).directRuns = false → ((s.bus k).sweep = .waiting ∨ ∃ m l, (s.bus k).sweep = .between m l) →
      ∀ lowReplied, exec (.transactionNoReply k lowReplied) s = .next s)) ∧
  ∀ (s : State) (k : BusIx) (m : ModuleIx) (l : LineIx) (step : VisitStep),
    (s.bus k).sweep = .visit m l step → (s.bus k).directRuns = false →
    let p := portOf k m l
    let r := s.port p
    let s1 := s.replied k m
    match step with
    | .loop => exec (.driveWrite k) s = .next s ∧ exec (.gainWrite k) s = .next s
    | .identity => exec (.driveWrite k) s = .next s ∧ exec (.gainWrite k) s = .next s
    | .drive d =>
      exec (.driveWrite k) s = .next ((s1.setPort p { r with
        lastDrive := some d
        rewrite := match r.service with
          | .blocked _ => false
          | _ => r.rewrite }).goesToGain k m l true) ∧
      exec (.gainWrite k) s = .next s
    | .gain code driveDone =>
      exec (.driveWrite k) s = .next s ∧
      exec (.gainWrite k) s = .next
        (let t := s1.setPort p { r with lastGain := some code, rewrite := if driveDone then false else r.rewrite }
         t.setBus k ((t.bus k).afterVisit m l))

/-- R41: a probe that replies makes the module PRESENT and its four ports ACTIVE with feed on and every other field at its reset value,
but for the held flag and the event sets; the ports are marked and the sweep goes on with the next module. -/
def Obligations.ProbeReplyBringsAModuleIntoService : Prop :=
  ∀ (s : State) (k : BusIx) (value : Word16) (m : ModuleIx), (s.bus k).sweep = .probe m → (s.bus k).directRuns = false →
    ∃ t, exec (.probeReply k value) s = .next t ∧
      t = { s.markedBoth ([0, 1, 2, 3].map fun l => .port (portOf k m l)) with buses := t.buses, ports := t.ports } ∧
      (∀ j, t.bus j = if j = k then ((s.bus k).setModule m ⟨true, 0⟩).goOn (m.val + 1) 0 else s.bus j) ∧
      (∀ p, t.port p =
        if ∃ l, p = portOf k m l then
          { Port.reset with service := .active, drive := ⟨true, false⟩, held := (s.port p).held,
                            eventsA := (s.port p).eventsA, eventsB := (s.port p).eventsB }
        else s.port p)

/-- R40, R46: a NO-REPLY in a visit that does not make the module ABSENT adds 1 to its count (R26: after a low part that replied it counts
from 0): after step 1 and step 5 the visit ends, after step 3 step 4 follows, after step 4 step 5. A probe with no reply changes nothing
but the place in the sweep. That one command stands for both identity reads is the model's choice (assumption 8). -/
def Obligations.NoReplyIsCounted : Prop :=
  ∀ (s : State) (k : BusIx) (lowReplied : Bool), (s.bus k).directRuns = false →
    (∀ (m : ModuleIx), (s.bus k).sweep = .probe m →
      exec (.transactionNoReply k lowReplied) s = .next (s.setBus k ((s.bus k).goOn (m.val + 1) 0))) ∧
    (∀ (m : ModuleIx) (l : LineIx) (step : VisitStep), (s.bus k).sweep = .visit m l step →
      ((s.bus k).modul m).present = true →
      let count := if step = .identity ∧ lowReplied = true then 0 else ((s.bus k).modul m).noReply
      count < 2 →
        let s1 := s.setBus k ((s.bus k).setModule m ⟨true, count + 1⟩)
        exec (.transactionNoReply k lowReplied) s = .next (match step with
          | .loop => s1.setBus k ((s1.bus k).afterVisit m l)
          | .identity => s1.goesToDrive k m l
          | .drive _ => s1.goesToGain k m l false
          | .gain _ _ => s1.setBus k ((s1.bus k).afterVisit m l)))

/-- R40, R42: the third NO-REPLY in a row makes the module ABSENT with count 0 and its four ports go out of service: unbound, IDLE, with
no ring state, flags, runs or last-written values, MODULE-LOST recorded and marked; an entry bound to one of them is ENTERED and marked. A
call with a leg on one of them is released, PORT-LOST when none of the four rang, and an entry that rang on one is in no ringing list and in
no call. The hook and the held flag stay. Every other call stays with its contexts, and so does every port and entry that is not of a call
with a leg or a ringing entry on the module. That each of the four ports is taken whole before the next, so that a step of an offer may ring
a member on a later one, is deduced (assumption 17); that one command stands for both identity reads and says whether the low part replied
is the model's choice (assumption 8). -/
def Obligations.ThirdNoReplyLosesTheModule : Prop :=
  ∀ (s : State) (k : BusIx) (lowReplied : Bool) (m : ModuleIx) (l : LineIx) (step : VisitStep),
    s.BindingsOk → (s.bus k).directRuns = false → (s.bus k).sweep = .visit m l step →
    ((s.bus k).modul m).present = true →
    ¬(step = .identity ∧ lowReplied = true) → 2 ≤ ((s.bus k).modul m).noReply →
      let lost := s.moduleLost k m
      let onModule (p : PortIx) : Prop := ∃ n, p = portOf k m n
      let reached (c : CallIx) : Prop := ∃ b, (s.call c).body = some b ∧
        ((∃ p ∈ b.legPorts, onModule p) ∨ ∃ e ∈ b.ringingList, ∃ p, s.boundPort e = some p ∧ onModule p)
      let ofReached (e : EntryIx) : Prop := ∃ c b, reached c ∧ (s.call c).body = some b ∧
        (e ∈ b.legEntries ∨ e ∈ b.ringingList ∨ ∃ o, b.offer? = some o ∧ e ∈ o.remaining)
      ∃ t, exec (.transactionNoReply k lowReplied) s = .next t ∧
        t = (lost.1.setBus k (((s.bus k).setModule m ⟨false, 0⟩).afterVisit m l)).markedBoth (orderObjs lost.2) ∧
        t = { s with entries := t.entries, ports := t.ports, calls := t.calls, contexts := t.contexts, buses := t.buses
                     linkA := t.linkA, linkB := t.linkB } ∧
        (∀ j, t.bus j = if j = k then ((s.bus k).setModule m ⟨false, 0⟩).afterVisit m l else s.bus j) ∧
        (∀ n : LineIx,
          let p := portOf k m n
          t.port p = s.withEventBoth .moduleLost
            { Port.reset with hook := (s.port p).hook, held := (s.port p).held, eventsA := (s.port p).eventsA,
                              eventsB := (s.port p).eventsB } ∧
          (∀ e, (s.port p).binding = some e → (t.entry e).map Entry.status = some .entered) ∧
          (∀ c, s.callOfPort p = some c →
            (∀ b, (t.call c).body = some b → b.phase = .releasing) ∧
            ((∀ i, s.ringingOn (portOf k m i) = none) → (t.call c).lastReason = some .portLost)) ∧
          (∀ c e, s.ringingOn p = some (c, e) →
            (∀ b, (t.call c).body = some b → e ∉ b.ringingList) ∧ (t.entry e).bind Entry.call = none) ∧
          ∀ x, s.resetHeld x = false → .obj (.port p) ∈ (t.link x).report ∧
            ∀ e, (s.port p).binding = some e → .obj (.entry e) ∈ (t.link x).report) ∧
        (∀ c, ¬reached c → t.call c = s.call c) ∧
        (∀ x r, s.context x = some r → ¬reached r.call → t.context x = some r) ∧
        (∀ e, (∀ p, s.boundPort e = some p → ¬onModule p) → ¬ofReached e → t.entry e = s.entry e) ∧
        (∀ p, ¬onModule p → (∀ c b, reached c → (s.call c).body = some b → p ∉ b.legPorts) →
          (∀ e, s.boundPort e = some p → ¬ofReached e) → t.port p = s.port p) ∧
        t.linkA = { s.linkA with report := t.linkA.report } ∧ t.linkB = { s.linkB with report := t.linkB.report }

/-- R26, R37, R38, R46, R163: what a line bus transaction carries. Port p is line p mod 4 of module ⌊(p mod 64) / 4⌋ on bus ⌊p / 64⌋, and
the items of line l start at 8l. A direct transaction carries what the request named; a probe reads item 31; a visit reads item 8l or 8l + 1
by the port's range, then 8l + 4 and 8l + 5 when the identity is due, writes feed on as bit 0 and ring on as bit 1 to 8l + 2 and the gain
code to 8l + 3. A free bus carries none. A reading above 4,095 is taken as 4,095. A late reply is noise and a frame sync that the frame
timing does not expect is ignored (R114): both change nothing. -/
def Obligations.LineTransactionsAndNoise : Prop :=
  (∀ (k : BusIx) (m : ModuleIx) (l : LineIx) (p : PortIx),
    portOf k m l = p ↔ p.val % 4 = l.val ∧ p.val % 64 / 4 = m.val ∧ p.val / 64 = k.val) ∧
  (∀ (s : State) (k : BusIx),
    let made := (s.transactions k).map fun x => (x.modul.val, x.item.val, x.write.map BitVec.toNat)
    (∀ d, (s.bus k).direct = some d → d.started = true → made = [(d.modul.val, d.item.val, d.write.map BitVec.toNat)]) ∧
    ((s.bus k).directRuns = false → match (s.bus k).sweep with
      | .waiting => made = []
      | .between _ _ => made = []
      | .probe m => made = [(m.val, 31, none)]
      | .visit m l .loop =>
        ((s.port (portOf k m l)).range = .fine → made = [(m.val, 8 * l.val, none)]) ∧
        ((s.port (portOf k m l)).range = .coarse → made = [(m.val, 8 * l.val + 1, none)])
      | .visit m l .identity => made = [(m.val, 8 * l.val + 4, none), (m.val, 8 * l.val + 5, none)]
      | .visit m l (.drive d) =>
        made = [(m.val, 8 * l.val + 2, some ((if d.feed then 1 else 0) + if d.ring then 2 else 0))]
      | .visit m l (.gain code _) => code ≤ 63 → made = [(m.val, 8 * l.val + 3, some code)])) ∧
  (∀ reading : Word16, clipReading reading = if 4095 < reading.toNat then 4095 else reading.toNat) ∧
  (∀ (s : State) (k : BusIx) (value : Word16), exec (.lateReply k value) s = .next s) ∧
  (∀ (s : State) (mark : Bool), exec (.unexpectedSync mark) s = .next s)

/-- R53, R55: HOLD PORT sets the held flag, RELEASE HOLD clears it and sets the rewrite flag; the port is marked when its held flag changed.
UNBLOCK PORT gives a BLOCKED port without the unblock mark the mark and the desired drive feed on, ring off; any other port is answered
STATE. Nothing else changes. -/
def Obligations.HoldReleaseAndUnblock : Prop :=
  (∀ (s : State) (q : QueueEntry) (p : PortIx), parsePort q.frame = some p →
    let r := s.port p
    (s.Issues q 33#8 → exec .holdPort s = .next ((s.setPort p { r with held := true }).completed q .done []
      (if r.held then [] else [.port p]))) ∧
    (s.Issues q 34#8 → exec .releaseHold s = .next ((s.setPort p { r with held := false, rewrite := true }).completed q .done []
      (if r.held then [.port p] else [])))) ∧
  (∀ (s : State) (q : QueueEntry) (p : PortIx), s.Issues q 36#8 → parsePort q.frame = some p →
    exec .unblockPort s = .next (
      if (s.port p).service = .blocked false then
        (s.setPort p { s.port p with service := .blocked true, drive := ⟨true, false⟩ }).completed q .done [] [.port p]
      else s.refusedWith q .state))

/-- R25, R54, R93: BLOCK PORT refuses an ABSENT port and a BLOCKED port without the unblock mark with STATE. An ACTIVE port is BLOCKED,
IDLE and undriven, its call is released PORT-LOST and its ringing entry is ineligible; a port in FAULT or with the unblock mark is
BLOCKED. The port and what the release changed are marked in the other side's list, what the member's loss changed in both lists
(assumption 15), and a call that the release frees while LOST is marked in the requester's list too (assumption 14). R23: the call of a port
is the lowest-numbered live one with a leg on it, and the entry that rings on a port is the one bound to it, while its call field names a
call whose ringing list holds it. -/
def Obligations.BlockPortTakesOutOfService : Prop :=
  (∀ (s : State) (p : PortIx),
    let legOn (c : CallIx) : Prop := ∃ b, s.Live c b ∧ p ∈ b.legPorts
    (s.callOfPort p = none ↔ ∀ c, ¬legOn c) ∧
    (∀ c, s.callOfPort p = some c ↔ legOn c ∧ ∀ d, d < c → ¬legOn d) ∧
    ∀ c e, s.ringingOn p = some (c, e) ↔
      (s.port p).binding = some e ∧ (s.entry e).bind Entry.call = some c ∧ ∃ b, (s.call c).body = some b ∧ e ∈ b.ringingList) ∧
  ∀ (s : State) (q : QueueEntry) (p : PortIx), s.Issues q 35#8 → parsePort q.frame = some p →
    let r := s.port p
    let blocked := (s.setPort p { r with service := .blocked false, drive := ⟨false, false⟩ }).completed q .done [] [.port p]
    match r.service with
    | .absent => exec .blockPort s = .next (s.refusedWith q .state)
    | .blocked mark => exec .blockPort s = .next (if mark then blocked else s.refusedWith q .state)
    | .fault _ => exec .blockPort s = .next blocked
    | .active =>
      let leg := (s.setPort p { r with service := .blocked false, activity := .idle, gainIndex := none, ring := none,
                                       drive := ⟨false, false⟩, pendingCount := 0 }).legDropped p .portLost
      let member := leg.1.memberDropped p (s.ringingOn p)
      let t := member.1.completed q .done [] (orderObjs (.port p :: (leg.2 ++ member.2)))
      exec .blockPort s = .next (t.setLink q.side ((t.link q.side).marked (orderObjs (member.2 ++ s.freedCalls t))))

/-! ## Loop supervision (04) -/

/-- R62: ringing judgement applies to a port with hook ON whose ring phase is ON or whose last-written drive has ring on. A visit counts
toward an off-hook when the loop value is at least RTT under ringing judgement and at least OFFT without it, and toward an on-hook when it
is below ONT. R61, R62, R63, R71: a reading of an ACTIVE port that brings neither an over-current fault nor an on-hook: the pending-count
follows the judgement, leakage is judged, and the visit goes on to the identity reads when an off-hook has been counted often enough, else
to step 4. -/
def Obligations.ActiveReadingCountsTowardAHookChange : Prop :=
  (∀ r : Port,
    (r.ringJudged = true ↔
      r.hook = .on ∧ ((∃ g, r.ring = some g ∧ g.phaseOn = true) ∨ ∃ d, r.lastDrive = some d ∧ d.ring = true)) ∧
    ∀ (t : Settings) (value : Nat), r.counts t value = true ↔
      (r.hook = .on ∧ r.ringJudged = true ∧ t.rtt ≤ value) ∨ (r.hook = .on ∧ r.ringJudged = false ∧ t.offt ≤ value) ∨
      (r.hook = .off ∧ value < t.ont)) ∧
  ∀ (s : State) (k : BusIx) (m : ModuleIx) (l : LineIx) (reading : Word16),
    (s.bus k).sweep = .visit m l .loop → (s.bus k).directRuns = false →
    let p := portOf k m l
    let t := s.settings
    let r := (s.port p).heard reading
    let n := if r.counts t r.loopValue then min 8 (r.pendingCount + 1) else 0
    let reached := r.counts t r.loopValue && decide ((if r.ringJudged then 2 else t.debounce) ≤ n)
    r.service = .active → ¬(t.oct ≤ r.loopValue ∧ 1 ≤ r.overRun) → ¬(reached = true ∧ r.hook = .off) →
      let r1 := { r with overRun := if t.oct ≤ r.loopValue then r.overRun + 1 else 0, pendingCount := n }
      let leak := ((s.replied k m).setPort p r1).leakageJudged p
      exec (.loopReading k reading) s = .next
        ((if reached = true then leak.1.setBus k { leak.1.bus k with sweep := .visit m l .identity }
          else leak.1.goesToDrive k m l).markedBoth leak.2)

/-- R64, R106: an on-hook accepted on an ACTIVE port: the hook is ON, the pending-count 0 and the gain index gone; an ORIGINATING or
REFUSED port is IDLE, and a TALKING port's call is released, CALLER-GONE while OFFERED and else ON-HOOK. ON-HOOK is recorded, leakage
judged, and step 4 follows. -/
def Obligations.OnHookFreesThePort : Prop :=
  ∀ (s : State) (k : BusIx) (m : ModuleIx) (l : LineIx) (reading : Word16),
    (s.bus k).sweep = .visit m l .loop → (s.bus k).directRuns = false →
    let p := portOf k m l
    let t := s.settings
    let r := (s.port p).heard reading
    r.service = .active → ¬(t.oct ≤ r.loopValue ∧ 1 ≤ r.overRun) → r.hook = .off → r.loopValue < t.ont →
    t.debounce ≤ min 8 (r.pendingCount + 1) →
      let r1 := { r with overRun := if t.oct ≤ r.loopValue then r.overRun + 1 else 0, hook := .on, pendingCount := 0,
                         gainIndex := none }
      let s1 := (s.replied k m).setPort p r1
      let s2 : Marked := match r.activity with
        | .idle => (s1, [])
        | .ringing => (s1, [])
        | .originating => (s1.setPort p { r1 with activity := .idle }, [])
        | .refused _ => (s1.setPort p { r1 with activity := .idle }, [])
        | .talking =>
          match s1.callOfPort p with
          | none => (s1, [])
          | some c =>
            match (s1.call c).body with
            | none => (s1, [])
            | some b => (s1.released c b (if b.offer?.isSome then .callerGone else .onHook), s1.releaseMarks c b)
      let leak := (s2.1.setPort p (s2.1.withEventBoth .onHook (s2.1.port p))).leakageJudged p
      exec (.loopReading k reading) s = .next ((leak.1.goesToDrive k m l).markedBoth (orderObjs (.port p :: s2.2 ++ leak.2)))

/-- R66, R67, R70: the second over-current reading in a row puts an ACTIVE port in FAULT, phase WAITING, IDLE and undriven with its fault
flag set; its call is released FAULT and its ringing entry is ineligible. FAULT is recorded and step 4 follows. -/
def Obligations.OverCurrentPutsAPortInFault : Prop :=
  ∀ (s : State) (k : BusIx) (m : ModuleIx) (l : LineIx) (reading : Word16),
    (s.bus k).sweep = .visit m l .loop → (s.bus k).directRuns = false →
    let p := portOf k m l
    let r := (s.port p).heard reading
    r.service = .active → s.settings.oct ≤ r.loopValue → 1 ≤ r.overRun →
      let s1 := (s.replied k m).setPort p { r with
        service := .fault s.waiting, activity := .idle, gainIndex := none, ring := none, overRun := r.overRun + 1
        drive := { r.drive with ring := false } }
      let gone := s1.dropped p (s.ringingOn p) .fault
      let s2 := gone.1.setPort p (s.withEventBoth .fault { gone.1.port p with
        drive := ⟨false, false⟩, pendingCount := 0, overRun := 0, leakRun := 0, faultFlag := true })
      exec (.loopReading k reading) s = .next ((s2.goesToDrive k m l).markedBoth (orderObjs (.port p :: gone.2)))

/-- R55, R61, R68: a reading of a port that is not ACTIVE. A MEASURING port whose reading qualifies is ACTIVE again below OCT with its hook
re-learned, and WAITING again otherwise; a BLOCKED port with the unblock mark whose reading qualifies is ACTIVE with its hook re-learned.
Any other reading is only heard. -/
def Obligations.ReadingsBringPortsBackIntoService : Prop :=
  ∀ (s : State) (k : BusIx) (m : ModuleIx) (l : LineIx) (reading : Word16),
    (s.bus k).sweep = .visit m l .loop → (s.bus k).directRuns = false →
    let p := portOf k m l
    let r := (s.port p).heard reading
    let fed : Bool := r.held || (r.lastDrive.map Drive.feed == some true)
    let learned : Hook := if r.loopValue < s.settings.offt then .on else .off
    (s.port p).service ≠ .active →
      let after : Port × Bool := match r.service with
        | .fault .measuring =>
          if fed = true ∧ ¬((s.port p).range = .fine ∧ r.range = .coarse) then
            if r.loopValue < s.settings.oct then
              ({ r with service := .active, activity := .idle, gainIndex := none, hook := learned, pendingCount := 0
                        overRun := 0, leakRun := 0, drive := ⟨true, false⟩ }, true)
            else ({ r with service := .fault s.waiting, drive := ⟨false, false⟩, faultFlag := true }, false)
          else (r, false)
        | .blocked true =>
          if fed = true then
            ({ r with service := .active, activity := .idle, gainIndex := none, hook := learned, pendingCount := 0 }, true)
          else (r, false)
        | _ => (r, false)
      exec (.loopReading k reading) s = .next
        ((((s.replied k m).setPort p after.1).goesToDrive k m l).markedBoth (if after.2 then [.port p] else []))

/-- R67, R69: a retest expiry of a WAITING port makes it MEASURING with feed on and ring off; any other port has none. CLEAR FAULT refuses
an ABSENT port with STATE; of any other it clears the fault and leakage flags, a WAITING port becomes MEASURING, and the port is marked
when a flag was set or its phase changed. The part's time is then at least the expiry, and a timer that is not running does nothing: the
model's choices (assumptions 1, 2). -/
def Obligations.FaultsAreRetestedAndCleared : Prop :=
  (∀ (s : State) (p : PortIx),
    exec (.retestExpiry p) s = .next (match (s.port p).service with
      | .fault (.waiting (some time)) =>
        { s with now := max s.now time
                 ports := s.ports.set p { s.port p with service := .fault .measuring, drive := ⟨true, false⟩ } }
      | _ => s)) ∧
  (∀ (s : State) (q : QueueEntry) (p : PortIx), s.Issues q 37#8 → parsePort q.frame = some p →
    let r := s.port p
    let marks : List Obj := if r.faultFlag || r.leakageFlag then [.port p] else []
    exec .clearFault s = .next (match r.service with
      | .absent => s.refusedWith q .state
      | .fault (.waiting _) =>
        (s.setPort p { r with service := .fault .measuring, drive := ⟨true, false⟩, faultFlag := false, leakageFlag := false
                              leakRun := 0 }).completed q .done [] [.port p]
      | .fault .measuring => (s.setPort p { r with faultFlag := false, leakageFlag := false }).completed q .done [] marks
      | _ => (s.setPort p { r with faultFlag := false, leakageFlag := false, leakRun := 0 }).completed q .done [] marks))

/-! ## Admission and the answer (02, 05) -/

/-- R27 to R33, R72: an off-hook accepted on an ACTIVE, IDLE port: identity 0 is resolved through the home ports, any other through the
identity map. The port binds, or keeps its binding, and is ORIGINATING with a gain index; or it is REFUSED. An entry bound to a port that is
IDLE with hook ON roams; an entry resolved by home port does not. OFF-HOOK, and REFUSED with a refusal, is recorded, and step 4 follows. On
a port with any other activity but RINGING the hook alone changes; on a port that is not ACTIVE nothing does. That an entry which lost its
binding to another handset's admission binds as an ENTERED one, where R34 has a row that says IN-USE, is the model's choice (assumption 32).
-/
def Obligations.AdmissionDecidesAnOffHook : Prop :=
  ∀ (s : State) (k : BusIx) (m : ModuleIx) (l : LineIx) (low high : Word16),
    (s.bus k).sweep = .visit m l .identity → (s.bus k).directRuns = false →
    let p := portOf k m l
    let r := s.port p
    let identity := high.toNat * 65536 + low.toNat
    let s0 := s.replied k m
    let off : Port := { r with hook := .off, pendingCount := 0 }
    let gain : Fin 16 := ⟨min 15 ((s.settings.gainBase - r.loopValue) / s.settings.gainStep), by omega⟩
    let originating : Port := s.withEventBoth .offHook { off with activity := .originating, gainIndex := some gain }
    let refused (why : RefusalReason) : Port :=
      s.withEventBoth .refused (s.withEventBoth .offHook { off with activity := .refused why, gainIndex := none })
    let kept := s0.setPort p originating
    let bind (e : EntryIx) : State :=
      { s0 with
        ports := mapIx (fun i x =>
          if i = p then { originating with binding := some e }
          else if s.boundPort e = some i then { x with binding := none } else x) s.ports
        entries := mapIx (fun i x =>
          if i = e then x.map fun x => { x with status := .bound p }
          else if r.binding = some i then x.map fun x => { x with status := .entered } else x) s.entries }
    let bindMarks (e : EntryIx) : List Obj :=
      .entry e :: .port p :: (r.binding.toList.map .entry ++ (s.boundPort e).toList.map .port)
    let after (t : State) (marks : List Obj) : State := (t.goesToDrive k m l).markedBoth (orderObjs (.port p :: marks))
    let exec' := exec (.identityRead k low high) s
    (r.service = .active → r.activity = .idle →
      exec' = .next (match (if identity = 0 then s.homeOf p else s.identityMap identity) with
        | none => after (s0.setPort p (refused .unknown)) []
        | some e =>
          match (s.entry e).map Entry.status with
          | none => after (s0.setPort p (refused .unknown)) []
          | some .entered => after (bind e) (bindMarks e)
          | some .barred => after (s0.setPort p (refused .barred)) []
          | some (.bound i) =>
            if i = p then after kept []
            else if identity ≠ 0 ∧ (s.port i).activity = .idle ∧ (s.port i).hook = .on then after (bind e) (bindMarks e)
            else after (s0.setPort p (refused .inUse)) [])) ∧
    (r.service = .active → r.activity ≠ .idle → r.activity ≠ .ringing →
      exec' = .next (after (s0.setPort p (s.withEventBoth .offHook off)) [])) ∧
    (r.service ≠ .active → exec' = .next (s0.goesToDrive k m l))

/-- R90, R91, R72: an off-hook on a port whose bound entry rings in an offer. An identity that fits takes the answer: the called leg has
the port and its entry, the call is CONNECTED, all other members are hushed, and the port is TALKING with a gain index. One that does not
fit makes the port REFUSED MISMATCH and its entry leaves the ringing list. -/
def Obligations.AnswerConnectsOrIsRefused : Prop :=
  ∀ (s : State) (k : BusIx) (m : ModuleIx) (l : LineIx) (low high : Word16),
    (s.bus k).sweep = .visit m l .identity → (s.bus k).directRuns = false →
    let p := portOf k m l
    let r := s.port p
    let identity := high.toNat * 65536 + low.toNat
    let s0 := s.replied k m
    let quiet : Port := { r with ring := none, drive := { r.drive with ring := false }, hook := .off, pendingCount := 0 }
    let gain : Fin 16 := ⟨min 15 ((s.settings.gainBase - r.loopValue) / s.settings.gainStep), by omega⟩
    r.service = .active → r.activity = .ringing →
    ∀ ce, s.ringingOn p = some ce → ∀ b, (s.call ce.1).body = some b → ∀ o, b.offer? = some o →
    ∀ entry, s.entry ce.2 = some entry →
      let c := ce.1
      let e := ce.2
      let others := o.ringing.filter (· ≠ e)
      exec (.identityRead k low high) s = .next (
        if identity = entry.identity ∨ (identity = 0 ∧ entry.home = some p) then
          let s1 := (s0.setCall c { s.call c with body := some { b with
            phase := .connected
            called := b.called.map fun x => { x with
              port := some p
              entry := match x.entry with
                | some f => some f
                | none => some e } } }).hushed c others
          let s2 := s1.setPort p (s.withEventBoth .answer { quiet with activity := .talking, gainIndex := some gain })
          (s2.goesToDrive k m l).markedBoth (orderObjs (.call c :: .port p :: s.marksOf others (some c)))
        else
          let s1 := s0.setPort p { quiet with activity := .refused .mismatch, gainIndex := none }
          let gone := s1.memberGone c b o e false
          let s2 := gone.1.setPort p (s.withEventBoth .refused (s.withEventBoth .offHook (gone.1.port p)))
          (s2.goesToDrive k m l).markedBoth (orderObjs (.port p :: gone.2)))

/-! ## Settings (03 to 05, 07) -/

/-- R57, R70, R72, R73, R74, R77, R87, R122: each settings request clamps its operands, answers DONE with what it took and changes nothing
else. SET CADENCE rounds each time down to 50 ms and clamps it to 50..5,000 ms and the count to 1..255; SET SWEEP PERIOD clamps to 2..50 ms,
SET OFFER DEFAULTS to 5..255 s, SET QUIET CODE takes any sample; SET SUPERVISION clamps its six values in order, each by those already
taken. SET FAULT MODE clamps the interval to 100..5,000 ms and writes both; a WAITING port loses its retest expiry when the mode becomes
LATCHED, is given one when it becomes RETEST, and keeps what it has when the mode stays. SET GAIN clamps the base to 0..32,760 and the step
to 1..4,000. SET GAIN TABLE writes one half of the table, each code clamped to 63, and every port's desired gain code is then that of the
new table: code 32 without a gain index, else the entry of the index. -/
def Obligations.SettingsAreClamped : Prop :=
  (∀ (s : State) (q : QueueEntry) (r : CadenceArgs), s.Issues q 48#8 → parseCadence q.frame = some r →
    let on := max 50 (min 5000 (r.onTime.toNat - r.onTime.toNat % 50))
    let off := max 50 (min 5000 (r.offTime.toNat - r.offTime.toNat % 50))
    let cycles := max 1 r.cycles.toNat
    exec .setCadence s = .next ((s.setCadence r.entry ⟨on, off, cycles⟩).completed q .done
      [b8 r.entry, b8 (on / 256), b8 on, b8 (off / 256), b8 off, b8 cycles] [])) ∧
  (∀ (s : State) (q : QueueEntry) (v : Byte), parseValue q.frame = some v →
    let period := max 2 (min 50 v.toNat)
    let expiry := max 5 v.toNat
    (s.Issues q 53#8 → exec .setSweepPeriod s = .next
      ((s.setSettings { s.settings with sweepPeriod := period }).completed q .done [b8 period] [])) ∧
    (s.Issues q 54#8 → exec .setQuietCode s = .next
      ((s.setSettings { s.settings with quietCode := v }).completed q .done [v] [])) ∧
    (s.Issues q 55#8 → exec .setOfferDefaults s = .next
      ((s.setSettings { s.settings with offerDefault := expiry }).completed q .done [b8 expiry] []))) ∧
  (∀ (s : State) (q : QueueEntry) (r : SupervisionArgs), s.Issues q 49#8 → parseSupervision q.frame = some r →
    let offt := max 1 (min 32759 r.offt.toNat)
    let ont := min (offt - 1) r.ont.toNat
    let rtt := max offt (min 32759 r.rtt.toNat)
    let oct := max (rtt + 1) (min 32760 r.oct.toNat)
    let leakt := min 32760 r.leakt.toNat
    let debounce := max 1 (min 8 r.debounce.toNat)
    exec .setSupervision s = .next ((s.setSettings { s.settings with
      offt := offt, ont := ont, rtt := rtt, oct := oct, leakt := leakt, debounce := debounce }).completed q .done
        [b8 (offt / 256), b8 offt, b8 (ont / 256), b8 ont, b8 (rtt / 256), b8 rtt, b8 (oct / 256), b8 oct,
         b8 (leakt / 256), b8 leakt, b8 debounce] [])) ∧
  (∀ (s : State) (q : QueueEntry) (r : FaultModeArgs), s.Issues q 50#8 → parseFaultMode q.frame = some r →
    let interval := max 100 (min 5000 r.interval.toNat)
    let t : State := { s with
      settings := { s.settings with faultMode := r.mode, retestInterval := interval }
      ports := mapIx (fun _ p => match p.service with
        | .fault (.waiting _) =>
          if r.mode = s.settings.faultMode then p
          else { p with service := .fault (.waiting (if r.mode = .retest then some (s.now + interval) else none)) }
        | _ => p) s.ports }
    exec .setFaultMode s = .next (t.completed q .done
      [if r.mode = .latched then 1 else 0, b8 (interval / 256), b8 interval] [])) ∧
  (∀ (s : State) (q : QueueEntry) (r : GainArgs), s.Issues q 51#8 → parseGain q.frame = some r →
    let base := min 32760 r.base.toNat
    let step := max 1 (min 4000 r.step.toNat)
    exec .setGain s = .next ((s.setSettings { s.settings with gainBase := base, gainStep := step }).completed q .done
      [b8 (base / 256), b8 base, b8 (step / 256), b8 step] [])) ∧
  (∀ (s : State) (q : QueueEntry) (r : GainTableArgs), s.Issues q 52#8 → parseGainTable q.frame = some r →
    let table : Vector Nat 16 := mapIx (fun i code =>
      if (8 ≤ i.val) = (r.upper = true) then min 63 (r.codes.getD (i.val % 8) 0).toNat else code) s.settings.gainTable
    ∃ t, exec .setGainTable s = .next t ∧
      t = (s.setSettings { s.settings with gainTable := table }).completed q .done
        ((if r.upper then 1 else 0) :: r.codes.map fun code => b8 (min 63 code.toNat)) [] ∧
      ∀ p, t.desiredGain p = match (s.port p).gainIndex with
        | none => 32
        | some g => table[g])

/-! ## Duplex operation (10) -/

/-- R150, R151: TAKEOVER ENTRY gives an entry, and its call if it has one, to the requester; TAKEOVER SIDE gives it every entry and call
that the other side handles, and answers how many. What changed is marked; nothing else changes. That the counts are of the objects moved
is R151's; a field that already names the side is left and not marked. -/
def Obligations.TakeoversMoveHandling : Prop :=
  (∀ (s : State) (q : QueueEntry) (e : EntryIx), s.Issues q 8#8 → parseEntry q.frame = some e →
    exec .takeoverEntry s = .next (match s.entry e with
      | none => s.refusedWith q .noEntry
      | some r =>
        let s1 := s.setEntry e (some { r with handler := q.side })
        let marks : List Obj := if r.handler = q.side then [] else [.entry e]
        match r.call with
        | none => s1.completed q .done [b8 (e.val / 256), b8 e, 0, 0] marks
        | some c =>
          let result := [b8 (e.val / 256), b8 e, b8 (128 + c.val), (s.call c).generation]
          match (s.call c).body with
          | none => s1.completed q .done result marks
          | some b =>
            (s1.setCall c { s.call c with body := some { b with handler := q.side } }).completed q .done result
              (marks ++ if b.handler = q.side then [] else [.call c]))) ∧
  (∀ (s : State) (q : QueueEntry) (u : Unit), s.Issues q 64#8 → parseNone q.frame = some u →
    let es := (List.finRange 512).filter fun e => (s.entry e).any fun r => r.handler != q.side
    let cs := (List.finRange 128).filter fun c => (s.call c).body.any fun b => b.handler != q.side
    let t : State := { s with
      entries := mapIx (fun _ r => r.map fun r => { r with handler := q.side }) s.entries
      calls := mapIx (fun _ c => { c with body := c.body.map fun b => { b with handler := q.side } }) s.calls }
    exec .takeoverSide s = .next (t.completed q .done [b8 (es.length / 256), b8 es.length, b8 cs.length]
      (es.map .entry ++ cs.map .call)))

/-- R153: REFRESH marks every non-vacant entry, every port, every call that is not FREE and HIGHWAY in the requester's own list, after its
RESPONSE, and answers how many entries and calls there were; an object already in the list stays where it stands. That the counts cover
objects already in the list is the model's reading (assumption 22). -/
def Obligations.RefreshMarksEverything : Prop :=
  ∀ (s : State) (q : QueueEntry) (u : Unit), s.Issues q 65#8 → parseNone q.frame = some u →
    let es := (List.finRange 512).filter fun e => (s.entry e).isSome
    let cs := (List.finRange 128).filter fun c => (s.call c).body.isSome
    let t := s.completed q .done [b8 (es.length / 256), b8 es.length, b8 cs.length] []
    exec .refresh s = .next (t.setLink q.side ((t.link q.side).marked
      (es.map .entry ++ (List.finRange 256).map .port ++ cs.map .call ++ [.highway])))

/-- R154, R155: the assertion of LINK RESET discards the side's requests without effect, takes them out of every wait list, empties its
list and its event sets, clears its discarded flag, stops its report frame and forgets the bytes it gathered; a direct transaction of a
discarded request runs on and answers no one. The release makes a fresh side. The other side's link and every other record stay. What an
assertion or a release that changes no level does is the model's choice (assumption 20). -/
def Obligations.LinkResetMakesAFreshSide : Prop :=
  ∀ (s : State) (x : Side),
    let mine := (s.queue.filter fun e => e.side == x).map (·.serial)
    let empty : EventSet := ⟨false, false, false, false, false, false, false⟩
    let t : State := { s with
      queue := (s.queue.filter fun e => e.side != x).map fun e => { e with waits := e.waits.filter fun n => !mine.contains n }
      ports := mapIx (fun _ p => match x with
        | .a => { p with eventsA := empty }
        | .b => { p with eventsB := empty }) s.ports
      buses := mapIx (fun _ b => { b with direct := b.direct.map fun d => { d with
        owner := if d.owner.any mine.contains then none else d.owner } }) s.buses }
    exec (.linkResetAssert x) s = .next (t.setLink x
      { listen := (s.link x).listen, linkReset := true, gathered := [], report := [], discarded := false, sending := none }) ∧
    exec (.linkResetRelease x) s = .next (
      if (s.link x).linkReset then
        s.setLink x { s.link x with linkReset := false, gathered := [], discarded := false }
      else s)

/-! ## Reports (11) -/

/-- R148, R159: with LISTEN asserted, no frame being sent and LINK RESET not held, the head of the side's list leaves it and its 16-byte
frame begins; a PORT item's delivery empties that side's event set of the port, a RESPONSE's clears the discarded flag. Otherwise nothing
begins. When the frame ends, none is being sent and LISTEN is as it then stands. R156, R157: an object marked in a list joins at the tail
unless it is there, and the objects of one event join with ENTRY items first, then PORT, CALL and HIGHWAY, each in ascending number and
once. That LISTEN comes with the command, and that the next frame begins in a command of its own, is the model's choice (assumption 19); so
is that the end of a frame changes nothing, LISTEN too, when no frame is being sent (assumption 1). -/
def Obligations.ReportsLeaveInOrder : Prop :=
  ∀ (s : State) (x : Side) (listen : Bool),
    let l := { s.link x with listen := listen }
    (∀ item, (reportFrame s x item).length = 16) ∧
    (∀ (items : List ReportItem) (o : Obj), markIn items o = if .obj o ∈ items then items else items ++ [.obj o]) ∧
    (∀ os : List Obj,
      let place (o : Obj) : Nat × Nat := match o with
        | .entry e => (0, e.val)
        | .port p => (1, p.val)
        | .call c => (2, c.val)
        | .highway => (3, 0)
      (∀ o, o ∈ orderObjs os ↔ o ∈ os) ∧
      (orderObjs os).Pairwise fun o o' => (place o).1 < (place o').1 ∨ ((place o).1 = (place o').1 ∧ (place o).2 < (place o').2)) ∧
    exec (.reportDelivery x listen) s = .next (
      if listen = true ∧ l.sending = none ∧ l.linkReset = false then
        match l.report with
        | [] => s.setLink x l
        | item :: rest =>
          let l1 := { l with report := rest, sending := some (reportFrame s x item) }
          match item with
          | .response _ => s.setLink x { l1 with discarded := false }
          | .obj (.port p) =>
            (s.setLink x l1).setPort p (match x with
              | .a => { s.port p with eventsA := ⟨false, false, false, false, false, false, false⟩ }
              | .b => { s.port p with eventsB := ⟨false, false, false, false, false, false, false⟩ })
          | _ => s.setLink x l1
      else s.setLink x l) ∧
    exec (.reportFrameSent x listen) s = .next (
      if (s.link x).sending = none then s else s.setLink x { l with sending := none })

/-- R160, R162: the bytes of a report frame, field by field. Byte 0 is the item's kind. A PORT item carries the port's fields, an absent
field as 0, and the side's event set; an ENTRY item the entry's index and its block; a CALL item state, reason and generation, and for a
call that is not FREE its fields and the block of each leg; a HIGHWAY item the state, M and the jump count; a RESPONSE what was captured,
with the discarded flag as it stands. Bytes that a kind leaves unused are 0. -/
def Obligations.ReportFramesCarryTheFields : Prop :=
  ∀ (s : State) (x : Side),
    let one (b : Bool) : Nat := if b then 1 else 0
    let byteOf (item : ReportItem) (i : Nat) : Nat := ((reportFrame s x item).getD i 0).toNat
    (∀ p : PortIx,
      let v := byteOf (.obj (.port p))
      let r := s.port p
      let ev := match x with
        | .a => r.eventsA
        | .b => r.eventsB
      v 0 = 1 ∧ v 1 = p.val ∧
      v 2 % 4 = (match r.service with
        | .absent => 0
        | .active => 1
        | .fault _ => 2
        | .blocked _ => 3) ∧
      v 2 / 4 % 2 = one (r.service = .blocked true) ∧ v 2 / 8 % 2 = one (r.hook = .off) ∧ v 2 / 16 % 2 = one (r.range = .coarse) ∧
      v 2 / 32 % 2 = one r.held ∧ v 2 / 64 % 2 = one r.faultFlag ∧ v 2 / 128 = one r.leakageFlag ∧
      (v 3 % 8, v 3 / 8 % 8) = (match r.activity with
        | .idle => (0, 0)
        | .originating => (1, 0)
        | .ringing => (2, 0)
        | .talking => (3, 0)
        | .refused .unknown => (4, 1)
        | .refused .barred => (4, 2)
        | .refused .inUse => (4, 3)
        | .refused .mismatch => (4, 4)) ∧
      v 3 / 64 = (match r.service with
        | .fault (.waiting _) => 1
        | .fault .measuring => 3
        | _ => 0) ∧
      v 4 * 256 + v 5 = (match r.binding with
        | none => 0
        | some e => 32768 + e.val) ∧
      v 6 = (match r.gainIndex with
        | none => 0
        | some g => 128 + g.val) ∧
      v 7 = s.desiredGain p % 256 ∧ v 8 * 256 + v 9 = r.loopValue % 65536 ∧
      v 10 = one r.drive.feed + 2 * one r.drive.ring + (match r.ring with
        | none => 0
        | some g => 4 + 8 * one g.phaseOn) ∧
      v 11 = one ev.offHook + 2 * one ev.onHook + 4 * one ev.answer + 8 * one ev.refused + 16 * one ev.fault + 32 * one ev.leakage +
        64 * one ev.moduleLost ∧
      ∀ i, 12 ≤ i → v i = 0) ∧
    (∀ e : EntryIx,
      let v := byteOf (.obj (.entry e))
      v 0 = 2 ∧ v 1 * 256 + v 2 = e.val ∧ (∀ i, i < 13 → v (3 + i) = ((entryBlock (s.entry e)).getD i 0).toNat) ∧
      ∀ i, 16 ≤ i → v i = 0) ∧
    (∀ c : CallIx,
      let v := byteOf (.obj (.call c))
      let r := s.call c
      v 0 = 3 ∧ v 1 = c.val ∧
      v 2 % 8 = (match r.body.map CallBody.phase with
        | none => 0
        | some (.offered _) => 1
        | some .provisional => 2
        | some .connected => 3
        | some .releasing => 4) ∧
      v 2 / 8 = (match r.lastReason with
        | none => 0
        | some .request => 1
        | some .onHook => 2
        | some .fault => 3
        | some .portLost => 4
        | some .noAnswer => 5
        | some .noMember => 6
        | some .callerGone => 7
        | some .highway => 8) ∧
      v 3 = r.generation.toNat ∧
      match r.body with
      | none => ∀ i, 4 ≤ i → v i = 0
      | some b =>
        let legs := (b.calling.toList.map fun l => (0, l)) ++ b.called.toList.map fun l => (1, l)
        v 4 % 2 = one (b.handler = .b) ∧ v 4 / 2 % 2 = one (b.kind = .trunk) ∧
        v 4 / 4 % 4 = (match b.mode with
          | .off => 0
          | .preferred => 1
          | .required => 2) ∧
        v 4 / 16 % 2 = one b.degraded ∧ v 4 / 32 = legs.length ∧ v 5 = (legs.map fun l => l.2.contexts).sum % 256 ∧
        (∀ i : Fin 2, match legs[i.val]? with
          | none => ∀ j : Fin 4, v (6 + 4 * i.val + j.val) = 0
          | some (role, l) =>
            v (6 + 4 * i.val) = role + 2 * (match l.path with
              | .pending => 0
              | .clear => 1
              | .starting => 2
              | .scrambled => 3) + 8 * one l.port.isSome + 16 * one l.entry.isSome ∧
            v (7 + 4 * i.val) = (match l.port with
              | none => 0
              | some p => p.val) ∧
            v (8 + 4 * i.val) * 256 + v (9 + 4 * i.val) = (match l.entry with
              | none => 0
              | some e => e.val)) ∧
        ∀ i, 14 ≤ i → v i = 0) ∧
    (let v := byteOf (.obj .highway);
      v 0 = 4 ∧ v 1 = one (s.highway.state = .synced) ∧ v 2 * 256 + v 3 = s.highway.count.toNat ∧
      v 4 = s.highway.jumpCount % 256 ∧ ∀ i, 5 ≤ i → v i = 0) ∧
    (∀ r : Response,
      let v := byteOf (.response r)
      v 0 = 5 ∧ v 1 = r.tag.toNat ∧
      v 2 % 128 = (match r.status with
        | .done => 0
        | .noEntry => 1
        | .duplicate => 2
        | .inUse => 3
        | .notHandler => 4
        | .noRoom => 5
        | .badField => 6
        | .noCall => 7
        | .state => 8
        | .clas => 9
        | .noMember => 10
        | .noReply => 11) ∧
      v 2 / 128 = one (s.link x).discarded ∧ ∀ i, v (3 + i) = if i < 13 then (r.result.getD i 0).toNat else 0)

/-- R17, R19, R105, R162: the bytes of what the read requests answer, field by field: the entry block, all 0 for a VACANT entry; a part of a
list, two bytes an entry and 0 past the length; and the parts of READ CALL, each with state, reason and generation first: the call with its
seed and anchor, a leg, the offer with the whole seconds left to its expiries, four entries of the ringing or the remaining list. A part
that names what the call does not have carries the first two bytes alone. -/
def Obligations.ReadResultsCarryTheFields : Prop :=
  let one (b : Bool) : Nat := if b then 1 else 0
  let at_ (bytes : List Byte) (i : Nat) : Nat := (bytes.getD i 0).toNat
  (∀ r : Option Entry,
    let v := at_ (entryBlock r)
    (entryBlock r).length = 13 ∧
    match r with
    | none => ∀ i, v i = 0
    | some e =>
      v 0 % 4 = (match e.status with
        | .entered => 1
        | .bound _ => 2
        | .barred => 3) ∧
      v 0 / 4 % 2 = one (e.handler = .b) ∧ v 0 / 8 % 2 = one e.classes.directed ∧ v 0 / 16 % 2 = one e.classes.group ∧
      v 0 / 32 % 2 = one e.classes.trunk ∧
      v 0 / 64 = (match e.classes.scramble with
        | .never => 0
        | .allowed => 1
        | .always => 2) ∧
      v 1 * 65536 + v 2 * 256 + v 3 = e.identity % 16777216 ∧ v 4 * 256 + v 5 = e.number % 65536 ∧
      v 6 % 2 = one e.home.isSome ∧ v 6 / 2 % 2 = one e.boundPort.isSome ∧ v 6 / 4 % 2 = one e.call.isSome ∧
      (e.groups.length ≤ 4 → v 6 / 8 = e.groups.length) ∧
      v 7 = (match e.home with
        | none => 0
        | some p => p.val) ∧
      v 8 = (match e.status with
        | .bound p => p.val
        | _ => 0) ∧
      v 9 = (match e.call with
        | none => 0
        | some c => c.val) ∧
      (∀ i : Fin 4, (v 10 * 65536 + v 11 * 256 + v 12) / 2 ^ (19 - 5 * i.val) % 32 = (match e.groups[i.val]? with
        | none => 0
        | some g => g.val)) ∧
      v 12 % 16 = 0) ∧
  (∀ (es : List EntryIx) (part : Nat), (fourEntries es part).length = 8 ∧
    ∀ i : Fin 4, at_ (fourEntries es part) (2 * i.val) * 256 + at_ (fourEntries es part) (2 * i.val + 1) =
      (match es[4 * part + i.val]? with
        | none => 0
        | some e => e.val)) ∧
  (∀ (s : State) (c : CallIx) (part : Fin 12),
    let bytes := callPart s c part
    let v := at_ bytes
    let item (i : Nat) : Nat := at_ (reportFrame s .a (.obj (.call c))) i
    let body := (s.call c).body
    let legs := body.toList.flatMap fun b => b.calling.toList ++ b.called.toList
    let list (es : List EntryIx) (k : Nat) : Prop :=
      if 4 * k < es.length then bytes.drop 2 = fourEntries es k else bytes.length = 2
    v 0 = item 2 ∧ v 1 = item 3 ∧
    (part = 0 → bytes.length = 9 ∧ v 2 = item 4 ∧ v 3 = item 5 ∧
      (v 4 * 65536 + v 5 * 256 + v 6, v 7 * 256 + v 8) = (match body with
        | none => (0, 0)
        | some b => (b.seed.toNat, b.anchor.toNat))) ∧
    (part = 1 ∨ part = 2 → match legs[part.val - 1]? with
      | none => bytes.length = 2
      | some l => bytes.length = 9 ∧ (∀ j : Fin 4, v (2 + j.val) = item (2 + 4 * part.val + j.val)) ∧
        v 6 = l.send.val ∧ v 7 = l.recv.val ∧ v 8 = l.contexts % 256) ∧
    (3 ≤ part.val → match body.bind CallBody.offer? with
      | none => bytes.length = 2
      | some o =>
        (part = 3 → bytes.length = 9 ∧
          v 2 * 256 + v 3 = (match o.target with
            | .entry e => e.val
            | .group g => 32768 + g.val) ∧
          v 4 = one (o.policy = .sequential) + 2 * o.cadence.val ∧ v 5 = o.ringing.length % 256 ∧ v 6 = o.remaining.length % 256 ∧
          v 7 = (o.offerExpiry - s.now) / 1000 % 256 ∧
          v 8 = (match o.stepExpiry with
            | none => 0
            | some time => (time - s.now) / 1000 % 256)) ∧
        (4 ≤ part.val → part.val < 8 → list o.ringing (part.val - 4)) ∧
        (8 ≤ part.val → list o.remaining (part.val - 8))))

/-! ## The highways (07) -/

/-- R114, R115, R116: a frame sync while SYNCED. In its turn and inside a block, the frame is taken. At position 0, or with a mark out of
place, a boundary is taken with the announced number or the next count: a count jump unless the number announced was the next count and the
mark came in its place. RELEASING calls are FREE, the legs move, and the contexts follow. That one command takes the whole frame, its
samples with it, and keeps what is sent until the next is deduced (`framed`, `out`: assumption 28). -/
def Obligations.SyncedFrameSync : Prop :=
  ∀ (s : State) (mark : Bool) (net line : Samples), s.highway.state = .synced →
    let h := s.highway
    let f : BlockPos := match h.position with
      | some f => f + 1
      | none => 0
    let jump := decide (h.announced ≠ some (h.count + 1) ∨ mark = false ∨ f ≠ 0)
    exec (.frameSync mark net line) s = .next (
      if f = 0 ∨ mark = true then s.blockOpened jump 0 ⟨net, line⟩
      else ({ s with highway := { h with missed := 0 } }).framed f ⟨net, line⟩)

/-- R114, R117, R118, R128: while SYNCED, the first missing sync is bridged: its frame is taken, and a boundary at position 0 is judged on
the number alone; the second in a row loses the highway: RELEASING calls are FREE, contexts are at rest, nothing is sent. While LOST a
mark begins the search, slot 255 is read in frames 0 and 1, and a mark at position 0 with a number read regains the highway, with a
boundary that is no jump and restarts the scrambling legs; any other sync at position 0, a mark out of place or a missing sync ends the
search. Which syncs count as expected while no timing is held is the model's choice (assumption 23); that one command takes the whole frame,
its samples with it, and keeps what is sent until the next is deduced (assumption 28). -/
def Obligations.HighwayIsLostAndRegained : Prop :=
  (∀ (s : State) (net line : Samples), s.highway.state = .synced →
    let h := s.highway
    let f : BlockPos := match h.position with
      | some f => f + 1
      | none => 0
    let lost : State := { s with
      highway := { h with state := .lost, position := none, high := none, announced := none, missed := 0, prev := none, out := none }
      calls := mapIx (fun _ c => { c with body := c.body.bind fun b => if b.phase = .releasing then none else some b }) s.calls
      contexts := mapIx (fun _ x => x.bind fun r =>
        if (s.call r.call).body.any fun b => b.phase == .releasing then none else some { r with state := .reserved }) s.contexts }
    exec (.missedSync net line) s = .next (
      if h.missed ≠ 0 then lost.markedBoth (s.freedCalls lost ++ [.highway])
      else if f = 0 then s.blockOpened (decide (h.announced ≠ some (h.count + 1))) 1 ⟨net, line⟩
      else ({ s with highway := { h with missed := 1 } }).framed f ⟨net, line⟩)) ∧
  (∀ (s : State) (mark : Bool) (net line : Samples), s.highway.state = .lost →
    let h := s.highway
    let waiting : State := { s with highway := { h with position := none, high := none, announced := none } }
    exec (.frameSync mark net line) s = .next (match h.position with
      | none =>
        if mark then { s with highway := { h with position := some 0, high := some net[255], announced := none } } else s
      | some f =>
        if f = 63 then
          match mark, h.announced with
          | true, some m =>
            let t := { s with highway := { h with
              state := .synced, count := m, announced := none, high := none, missed := 0, prev := none } }.bounded true m
            (t.framed 0 ⟨net, line⟩).markedBoth (s.freedCalls t ++ [.highway])
          | _, _ => waiting
        else if mark then waiting
        else { s with highway := { h with
          position := some (f + 1)
          high := if f = 0 then none else h.high
          announced := if f = 0 then h.high.map (fun high => high ++ net[255]) else h.announced } }) ∧
    exec (.missedSync net line) s = .next (if h.position = none then s else waiting))

/-- R98, R119, R120, R121, R122: in a frame, a live leg drives its send slot and supplies its port's line out slot by its path; a slot that
no live leg drives is undriven and a line that none supplies carries the quiet code. Slot 255 is never driven. That what a frame carries
depends on the state in which it begins alone, and so on the frame before (`prev`), is deduced (assumption 28). -/
def Obligations.FramesCarryTheLiveLegs : Prop :=
  ∀ (s : State) (f : BlockPos), s.SlotsOk →
    let live (c : CallIx) (role : Role) (l : Leg) : Prop := ∃ b, (s.call c).body = some b ∧ b.leg role = some l ∧
      match b.phase with
      | .offered _ => role = .calling
      | .releasing => False
      | _ => True
    let quiet := s.settings.quietCode
    (s.frameOut f).net[255] = none ∧
    (∀ n : SlotIx, (∀ c role l, live c role l → l.send ≠ n) → (s.frameOut f).net[n.val] = none) ∧
    (∀ p : PortIx, (∀ c role l, live c role l → l.port ≠ some p) → (s.frameOut f).line[p] = quiet) ∧
    (∀ c role l, live c role l → match l.path with
      | .pending => (s.frameOut f).net[l.send.val] = some quiet
      | .clear => ∀ fr p, s.highway.prev = some fr → l.port = some p → (s.frameOut f).net[l.send.val] = some fr.line[p]
      | .starting => (s.frameOut f).net[l.send.val] = some quiet
      | .scrambled => ∀ r collected index emitting perm v, s.contextOf c role .scramble = some r →
        r.state = .running collected index emitting perm → (scrambleBlock perm emitting)[f.val]? = some v →
          (s.frameOut f).net[l.send.val] = some v) ∧
    (∀ c role l p, live c role l → l.port = some p →
      (∀ c' role' l', live c' role' l' → l'.port = some p → l' = l ∧ c' = c ∧ role' = role) → match l.path with
      | .pending => ∀ fr, s.highway.prev = some fr → (s.frameOut f).line[p] = fr.net[l.recv.val]
      | .clear => ∀ fr, s.highway.prev = some fr → (s.frameOut f).line[p] = fr.net[l.recv.val]
      | .starting => (s.frameOut f).line[p] = quiet
      | .scrambled => ∀ r collected index emitting perm v, s.contextOf c role .descramble = some r →
        r.state = .running collected index emitting perm → (descrambleBlock perm emitting)[f.val]? = some v →
          (s.frameOut f).line[p] = v) ∧
    (s.highway.prev = none → ∀ c role l, live c role l → l.path = .pending ∨ l.path = .clear →
      (s.frameOut f).net[l.send.val] = some quiet ∧
      ∀ p, l.port = some p → (∀ c' role' l', live c' role' l' → l'.port = some p → l' = l ∧ c' = c ∧ role' = role) →
        (s.frameOut f).line[p] = quiet)

/-! ## The scrambler (08) -/

/-- R125, R129, R130, R131, R132: a call's contexts are the lowest-numbered FREE ones, each RESERVED, for the CALLING leg's and then the
CALLED leg's SCRAMBLE and DESCRAMBLE directions, with the call's anchor and a variant seed: S for speech from CALLING toward CALLED, S +
8,388,608 modulo 16,777,216 for the other way. The block index is M − A mod 65,536. The engine's eight states after its start state give
eight draws; the first seven exchange the entries 7 down to 1 of the straight order, so that the order is a permutation, and the eighth is
the inversion mask. -/
def Obligations.VariantsIndicesAndPermutations : Prop :=
  (∀ seed : Word24,
    let reverse := (seed.toNat + 8388608) % 16777216
    variantSeed seed .calling .scramble = seed ∧ (variantSeed seed .calling .descramble).toNat = reverse ∧
    (variantSeed seed .called .scramble).toNat = reverse ∧ variantSeed seed .called .descramble = seed) ∧
  (∀ (s : State) (c : CallIx) (b : CallBody),
    let taken (role : Role) (d : Direction) : ContextRec :=
      { call := c, role := role, direction := d, variant := variantSeed b.seed role d, anchor := b.anchor, state := .reserved }
    let wanted : List ContextRec :=
      (if b.calling.isSome then [taken .calling .scramble, taken .calling .descramble] else []) ++
        if b.called.isSome then [taken .called .scramble, taken .called .descramble] else []
    let freeBelow (i : ContextIx) : Nat := ((List.finRange 192).filter fun j => decide (j < i) && (s.context j).isNone).length
    s.reserveContexts c b = s.withContextsFor c b ∧
    s.withContextsFor c b = s.setContexts (s.withContextsFor c b).contexts ∧
    ∀ i, (s.withContextsFor c b).context i = match s.context i with
      | some r => some r
      | none => wanted[freeBelow i]?) ∧
  (∀ m a : Word16, (blockIndex m a).toNat = (m.toNat + 65536 - a.toNat) % 65536) ∧
  ∀ (v : Word24) (b : Word16),
    let x (n : Nat) : Nat := (fun x => (4485 * x + 2969) % 16777216)^[n] ((v.toNat + 40503 * b.toNat) % 16777216)
    let draw (n : Nat) : Nat := x n / 65536
    let exchanged : List Nat := [7, 6, 5, 4, 3, 2, 1].foldl (fun order i =>
      let j := draw (8 - i) % (i + 1)
      (order.set i (order.getD j 0)).set j (order.getD i 0)) [0, 1, 2, 3, 4, 5, 6, 7]
    (blockPerm v b).order.toList.map Fin.val = exchanged ∧ (blockPerm v b).order.toList.Nodup ∧
      (blockPerm v b).mask.toNat = draw 8

/-- R133, R134: sample k of output segment i is sample k of input segment P[i], its sign turned over when bit i of the mask is 1; turning
the sign over twice gives the sample back; and descrambling a block with the permutation it was scrambled with gives back exactly the
samples that were scrambled. -/
def Obligations.DescramblingUndoesScrambling : Prop :=
  ∀ (v : Word24) (b : Word16) (block : List Byte), block.length = 64 →
    let perm := blockPerm v b
    (∀ (i : Fin 8) (k : Fin 8),
      (scrambleBlock perm block)[8 * i.val + k.val]? = (block[8 * (perm.order[i]).val + k.val]?).map fun sample =>
        if perm.mask.getLsbD i then turnSign sample else sample) ∧
    (∀ sample : Byte, (turnSign sample).toNat = (if 128 ≤ sample.toNat then sample.toNat - 128 else sample.toNat + 128) ∧
      turnSign (turnSign sample) = sample) ∧
    (∀ (i : Fin 8) (k : Fin 8),
      (descrambleBlock perm block)[8 * (perm.order[i]).val + k.val]? = (block[8 * i.val + k.val]?).map fun sample =>
        if perm.mask.getLsbD i then turnSign sample else sample) ∧
    descrambleBlock perm (scrambleBlock perm block) = block

/-! ## Encodings (12) -/

/-- R161: the frame written for a request's operands is read back as those operands, for every request and all its operands in range, and
carries the tag and the request code. -/
def Obligations.RequestFramesAreReadBack : Prop :=
  ∀ tag : Byte,
    (∀ r : EnterArgs, r.wf = true → parseEnter (encodeEnter tag r) = some r ∧ (encodeEnter tag r).code = 1#8 ∧
      (encodeEnter tag r).tag = tag) ∧
    (∀ r : AmendArgs, r.wf = true → parseAmend (encodeAmend tag r) = some r ∧ (encodeAmend tag r).code = 2#8 ∧
      (encodeAmend tag r).tag = tag) ∧
    (∀ (code : Nat) (e : EntryIx), code < 256 → parseEntry (encodeEntry tag code e) = some e ∧
      (encodeEntry tag code e).code.toNat = code ∧ (encodeEntry tag code e).tag = tag) ∧
    (∀ k : LookupKey, k.wf = true → parseLookup (encodeLookup tag k) = some k ∧ (encodeLookup tag k).code = 6#8 ∧
      (encodeLookup tag k).tag = tag) ∧
    (∀ r : SetGroupArgs, r.wf = true → parseSetGroup (encodeSetGroup tag r) = some r ∧ (encodeSetGroup tag r).code = 9#8 ∧
      (encodeSetGroup tag r).tag = tag) ∧
    (∀ r : ReadGroupArgs, parseReadGroup (encodeReadGroup tag r) = some r ∧ (encodeReadGroup tag r).code = 10#8 ∧
      (encodeReadGroup tag r).tag = tag) ∧
    (∀ r : OfferArgs, parseOffer (encodeOffer tag r) = some r ∧ (encodeOffer tag r).code = 16#8 ∧
      (encodeOffer tag r).tag = tag) ∧
    (∀ r : TrunkArgs, parseTrunk (encodeTrunk tag r) = some r ∧ (encodeTrunk tag r).code = 17#8 ∧
      (encodeTrunk tag r).tag = tag) ∧
    (∀ r : CallRef, parseConfirm (encodeConfirm tag r) = some r ∧ (encodeConfirm tag r).code = 18#8 ∧
      (encodeConfirm tag r).tag = tag) ∧
    (∀ r : ScrambleArgs, parseScramble (encodeScramble tag r) = some r ∧ (encodeScramble tag r).code = 19#8 ∧
      (encodeScramble tag r).tag = tag) ∧
    (∀ r : ReleaseArgs, parseRelease (encodeRelease tag r) = some r ∧ (encodeRelease tag r).code = 20#8 ∧
      (encodeRelease tag r).tag = tag) ∧
    (∀ r : ReadCallArgs, parseReadCall (encodeReadCall tag r) = some r ∧ (encodeReadCall tag r).code = 21#8 ∧
      (encodeReadCall tag r).tag = tag) ∧
    (∀ r : LineArgs, parseLine (encodeLine tag r) = some r ∧ (encodeLine tag r).code = 32#8 ∧
      (encodeLine tag r).tag = tag) ∧
    (∀ (code : Nat) (p : PortIx), code < 256 → parsePort (encodePort tag code p) = some p ∧
      (encodePort tag code p).code.toNat = code ∧ (encodePort tag code p).tag = tag) ∧
    (∀ r : CadenceArgs, parseCadence (encodeCadence tag r) = some r ∧ (encodeCadence tag r).code = 48#8 ∧
      (encodeCadence tag r).tag = tag) ∧
    (∀ r : SupervisionArgs, parseSupervision (encodeSupervision tag r) = some r ∧ (encodeSupervision tag r).code = 49#8 ∧
      (encodeSupervision tag r).tag = tag) ∧
    (∀ r : FaultModeArgs, parseFaultMode (encodeFaultMode tag r) = some r ∧ (encodeFaultMode tag r).code = 50#8 ∧
      (encodeFaultMode tag r).tag = tag) ∧
    (∀ r : GainArgs, parseGain (encodeGain tag r) = some r ∧ (encodeGain tag r).code = 51#8 ∧
      (encodeGain tag r).tag = tag) ∧
    (∀ r : GainTableArgs, r.wf = true → parseGainTable (encodeGainTable tag r) = some r ∧ (encodeGainTable tag r).code = 52#8 ∧
      (encodeGainTable tag r).tag = tag) ∧
    (∀ (code : Nat) (v : Byte), code < 256 → parseValue (encodeValue tag code v) = some v ∧
      (encodeValue tag code v).code.toNat = code ∧ (encodeValue tag code v).tag = tag) ∧
    (∀ code : Nat, code < 256 → parseNone (encodeNone tag code) = some () ∧ (encodeNone tag code).code.toNat = code ∧
      (encodeNone tag code).tag = tag)

/-- R147, R161: a frame is read as a request's operands only where its flags and its bytes are as the request's layout gives them, so that
any other flag, byte or code value is answered BAD-FIELD. A request whose layout leaves no defined bit unused is read from the frame written
for its operands alone. For the six others, each clause says of which frames the operands are read: ENTER (R11 item 1: an identity of 1 to
16,777,215, a number up to 9,999, up to four groups, none twice), AMEND (R12 item 1: not both home port flags, a number up to 9,999), SET
GROUP (R18 item 1: up to four entries), OFFER, CONNECT TRUNK (R98: a send or receive slot below 255) and LINE ACCESS. An index above its
range is read as none, since the operands' types hold none. That bits 0 to 2 of a class byte and bits 0 to 3 of an OFFER's 24-bit field must
be 0 is deduced (assumption 5), and so is that a byte which the layout defines and the flags leave unused is not examined (assumption 6). -/
def Obligations.EveryFrameIsReadByItsLayout : Prop :=
  ∀ f : Frame,
    let one (b : Bool) : Nat := if b then 1 else 0
    let two (h l : Byte) : Nat := h.toNat * 256 + l.toNat
    let three (h m l : Byte) : Nat := h.toNat * 65536 + m.toNat * 256 + l.toNat
    let flags := f.flags.toNat
    let modeOf (m : Mode) : Nat := match m with
      | .off => 0
      | .preferred => 1
      | .required => 2
    let classByte (c : ClassSet) : Nat := 8 * one c.directed + 16 * one c.group + 32 * one c.trunk + 64 * (match c.scramble with
      | .never => 0
      | .allowed => 1
      | .always => 2)
    (∀ e, parseEntry f = some e → f = encodeEntry f.tag f.code.toNat e) ∧
    (∀ k, f.code = 6#8 → parseLookup f = some k → f = encodeLookup f.tag k ∧ k.wf = true) ∧
    (∀ r, f.code = 10#8 → parseReadGroup f = some r → f = encodeReadGroup f.tag r) ∧
    (∀ r, f.code = 18#8 → parseConfirm f = some r → f = encodeConfirm f.tag r) ∧
    (∀ r, f.code = 19#8 → parseScramble f = some r → f = encodeScramble f.tag r) ∧
    (∀ r, f.code = 20#8 → parseRelease f = some r → f = encodeRelease f.tag r) ∧
    (∀ r, f.code = 21#8 → parseReadCall f = some r → f = encodeReadCall f.tag r) ∧
    (∀ p, parsePort f = some p → f = encodePort f.tag f.code.toNat p) ∧
    (∀ r, f.code = 48#8 → parseCadence f = some r → f = encodeCadence f.tag r) ∧
    (∀ r, f.code = 49#8 → parseSupervision f = some r → f = encodeSupervision f.tag r) ∧
    (∀ r, f.code = 50#8 → parseFaultMode f = some r → f = encodeFaultMode f.tag r) ∧
    (∀ r, f.code = 51#8 → parseGain f = some r → f = encodeGain f.tag r) ∧
    (∀ r, f.code = 52#8 → parseGainTable f = some r → f = encodeGainTable f.tag r) ∧
    (∀ v, parseValue f = some v → f = encodeValue f.tag f.code.toNat v) ∧
    (∀ u, parseNone f = some u → f = encodeNone f.tag f.code.toNat) ∧
    (∀ r, parseEnter f = some r ↔
      flags = r.groups.length + 8 * one r.home.isSome ∧ r.groups.length ≤ 4 ∧ r.groups.Nodup ∧
      r.groups.map Fin.val = ([f.b12, f.b13, f.b14, f.b15].take r.groups.length).map BitVec.toNat ∧
      two f.b3 f.b4 = r.entry.val ∧ three f.b5 f.b6 f.b7 = r.identity ∧ r.identity ≠ 0 ∧
      two f.b8 f.b9 = r.number ∧ r.number ≤ 9999 ∧ f.b10.toNat = classByte r.classes ∧
      ∀ p, r.home = some p → f.b11.toNat = p.val) ∧
    (∀ r, parseAmend f = some r ↔
      flags = one r.classes.isSome + (match r.home with
        | .keep => 0
        | .set _ => 2
        | .clear => 4) + 8 * one r.number.isSome ∧
      two f.b3 f.b4 = r.entry.val ∧ f.b5.toNat % 8 = 0 ∧ (∀ c, r.classes = some c → f.b5.toNat = classByte c) ∧
      (∀ p, r.home = .set p → f.b6.toNat = p.val) ∧ (∀ n, r.number = some n → two f.b7 f.b8 = n ∧ n ≤ 9999) ∧
      ∀ v ∈ [f.b9, f.b10, f.b11, f.b12, f.b13, f.b14, f.b15], v = 0) ∧
    (∀ r, parseSetGroup f = some r ↔
      f.b3.toNat = r.group.val ∧ f.b15 = 0 ∧
      let given (form : Nat) (es : List EntryIx) : Prop :=
        flags = form + 4 * es.length ∧ es.length ≤ 4 ∧
        es.map Fin.val = [two f.b7 f.b8, two f.b9 f.b10, two f.b11 f.b12, two f.b13 f.b14].take es.length
      match r.form with
      | .settings policy cadence time es => given 0 es ∧ f.b5.toNat = cadence.val ∧ f.b6 = time ∧
        f.b4 = (match policy with
          | .all => 0
          | .sequential => 1)
      | .replace es => given 1 es
      | .append es => given 2 es
      | .drop es => given 3 es) ∧
    (∀ r, parseOffer f = some r ↔
      let field := three f.b3 f.b4 f.b5
      flags = one r.calling.isNone + (match r.target with
        | .entry _ => 0
        | .group _ => 2) + 4 * one r.anchor.isNone + 8 * modeOf r.mode + 32 * one r.cadence.isSome + 64 * one r.expiry.isSome ∧
      (field / 32768, f.b8.toNat, f.b9.toNat) = (match r.calling with
        | none => (0, 0, 0)
        | some p => (p.entry.val, p.send.val, p.recv.val)) ∧
      field / 64 % 512 = (match r.target with
        | .entry e => e.val
        | .group g => g.val) ∧
      (∀ i, r.cadence = some i → field / 16 % 4 = i.val) ∧ field % 16 = 0 ∧
      f.b6.toNat = r.calledSend.val ∧ f.b7.toNat = r.calledRecv.val ∧ three f.b10 f.b11 f.b12 = r.seed.toNat ∧
      (∀ a, r.anchor = some a → two f.b13 f.b14 = a.toNat) ∧ ∀ v, r.expiry = some v → f.b15 = v) ∧
    (∀ r, parseTrunk f = some r ↔
      flags = one (r.role = .called) + 2 * one r.anchor.isNone + 4 * modeOf r.mode ∧
      two f.b3 f.b4 = r.entry.val ∧ f.b5.toNat = r.send.val ∧ f.b6.toNat = r.recv.val ∧
      three f.b7 f.b8 f.b9 = r.seed.toNat ∧ (∀ a, r.anchor = some a → two f.b10 f.b11 = a.toNat) ∧
      ∀ v ∈ [f.b12, f.b13, f.b14, f.b15], v = 0) ∧
    (∀ r, parseLine f = some r ↔
      flags = one r.write.isSome ∧ f.b3.toNat = r.bus.val ∧ f.b4.toNat = r.modul.val ∧ f.b5.toNat = r.item.val ∧
      (∀ v, r.write = some v → two f.b6 f.b7 = v.toNat) ∧
      ∀ v ∈ [f.b8, f.b9, f.b10, f.b11, f.b12, f.b13, f.b14, f.b15], v = 0)

/-! ## What every step keeps -/

/-- R138, R139, R141, R155, R156: from every state in which they hold, a step keeps the bounds of the queue and of each side's share, fewer
than 16 bytes gathered on a link, the silence of a side whose LINK RESET is held, and no object twice in a list. -/
def Obligations.StepKeepsQueueAndListBounds : Prop :=
  ∀ s t : State, s.LinksOk → step s = .next t → t.LinksOk

/-- R141, R142, R143: from every state in which they hold, a step keeps the laws of the wait lists: an entry waits for exactly the older
entries whose key sets conflict with its own. -/
def Obligations.StepKeepsRequestOrder : Prop :=
  ∀ s t : State, s.OrderOk → step s = .next t → t.OrderOk

/-- R3, R9, R10: from every state in which they hold, a step keeps the laws of the directory: no identity, number or home port twice, and
member lists and groups lists that name each other. -/
def Obligations.StepKeepsTheDirectoryLaws : Prop :=
  (∀ s t : State, s.DirectoryOk → step s = .next t → t.DirectoryOk) ∧
  (∀ s t : State, s.GroupsOk → step s = .next t → t.GroupsOk)

/-- R98: from every state in which no send slot is held twice, a step gives such a state. R96, R124, R125, R130: from every state in which
they hold, a step keeps the laws of the contexts: the free ones and the reserved ones are 192, and a leg that holds contexts holds exactly
two, one for each direction, with its call's seed and anchor. -/
def Obligations.StepKeepsSlotsAndContexts : Prop :=
  (∀ s t : State, s.SlotsOk → step s = .next t → t.SlotsOk) ∧
  (∀ s t : State, s.ContextsOk → step s = .next t → t.ContextsOk)

/-- R2, R22, R39, R41: from every state in which they hold, a step keeps the two halves of every binding together, and a port ABSENT exactly
when its module is. -/
def Obligations.StepKeepsBindingsTogether : Prop :=
  ∀ s t : State, s.BindingsOk → step s = .next t → t.BindingsOk

/-- R7, R23: from every state in which they and the bindings hold together, a step keeps the laws of the live calls: an entry's call field
names a call exactly while the entry is a leg's or rings for it, a port is TALKING exactly while it is a leg's and RINGING exactly while its
entry rings, and a port out of service is neither. -/
def Obligations.StepKeepsCallsTogether : Prop :=
  ∀ s t : State, s.BindingsOk → s.CallsOk → step s = .next t → t.CallsOk

/-- R57, R70, R73, R74, R77, R87, R113, R114, R117: from every state in which they hold, a step keeps every setting in its range and the
fields of the Highway Unit as its state asks. -/
def Obligations.StepKeepsSettingsAndHighwayInRange : Prop :=
  (∀ s t : State, s.SettingsOk → step s = .next t → t.SettingsOk) ∧
  (∀ s t : State, s.HighwayOk → step s = .next t → t.HighwayOk)

/-- Every invariant holds right after power-on reset. -/
def Obligations.ResetMeetsTheInvariants : Prop :=
  State.reset.LinksOk ∧ State.reset.OrderOk ∧ State.reset.DirectoryOk ∧ State.reset.GroupsOk ∧ State.reset.SlotsOk ∧
    State.reset.ContextsOk ∧ State.reset.BindingsOk ∧ State.reset.CallsOk ∧ State.reset.SettingsOk ∧ State.reset.HighwayOk
end

