-- ==== Sys2Proof/Laws/State.lean ====
section
/-! SUPPORT. The fields of State after each of its updates, one lemma each, and the record read after one is written. -/

namespace Sys2Proof.Machine

/-! ### setEntry -/

@[simp] theorem State.setEntry_entries (s : State) (e : EntryIx) (r : Option Entry) : (s.setEntry e r).entries = s.entries.set e r := rfl
@[simp] theorem State.setEntry_groups (s : State) (e : EntryIx) (r : Option Entry) : (s.setEntry e r).groups = s.groups := rfl
@[simp] theorem State.setEntry_ports (s : State) (e : EntryIx) (r : Option Entry) : (s.setEntry e r).ports = s.ports := rfl
@[simp] theorem State.setEntry_buses (s : State) (e : EntryIx) (r : Option Entry) : (s.setEntry e r).buses = s.buses := rfl
@[simp] theorem State.setEntry_cadences (s : State) (e : EntryIx) (r : Option Entry) : (s.setEntry e r).cadences = s.cadences := rfl
@[simp] theorem State.setEntry_calls (s : State) (e : EntryIx) (r : Option Entry) : (s.setEntry e r).calls = s.calls := rfl
@[simp] theorem State.setEntry_contexts (s : State) (e : EntryIx) (r : Option Entry) : (s.setEntry e r).contexts = s.contexts := rfl
@[simp] theorem State.setEntry_highway (s : State) (e : EntryIx) (r : Option Entry) : (s.setEntry e r).highway = s.highway := rfl
@[simp] theorem State.setEntry_linkA (s : State) (e : EntryIx) (r : Option Entry) : (s.setEntry e r).linkA = s.linkA := rfl
@[simp] theorem State.setEntry_linkB (s : State) (e : EntryIx) (r : Option Entry) : (s.setEntry e r).linkB = s.linkB := rfl
@[simp] theorem State.setEntry_queue (s : State) (e : EntryIx) (r : Option Entry) : (s.setEntry e r).queue = s.queue := rfl
@[simp] theorem State.setEntry_nextSerial (s : State) (e : EntryIx) (r : Option Entry) : (s.setEntry e r).nextSerial = s.nextSerial := rfl
@[simp] theorem State.setEntry_lastServed (s : State) (e : EntryIx) (r : Option Entry) : (s.setEntry e r).lastServed = s.lastServed := rfl
@[simp] theorem State.setEntry_settings (s : State) (e : EntryIx) (r : Option Entry) : (s.setEntry e r).settings = s.settings := rfl
@[simp] theorem State.setEntry_now (s : State) (e : EntryIx) (r : Option Entry) : (s.setEntry e r).now = s.now := rfl
@[simp] theorem State.setEntry_pending (s : State) (e : EntryIx) (r : Option Entry) : (s.setEntry e r).pending = s.pending := rfl

/-! ### setGroup -/

@[simp] theorem State.setGroup_entries (s : State) (g : GroupIx) (r : Group) : (s.setGroup g r).entries = s.entries := rfl
@[simp] theorem State.setGroup_groups (s : State) (g : GroupIx) (r : Group) : (s.setGroup g r).groups = s.groups.set g r := rfl
@[simp] theorem State.setGroup_ports (s : State) (g : GroupIx) (r : Group) : (s.setGroup g r).ports = s.ports := rfl
@[simp] theorem State.setGroup_buses (s : State) (g : GroupIx) (r : Group) : (s.setGroup g r).buses = s.buses := rfl
@[simp] theorem State.setGroup_cadences (s : State) (g : GroupIx) (r : Group) : (s.setGroup g r).cadences = s.cadences := rfl
@[simp] theorem State.setGroup_calls (s : State) (g : GroupIx) (r : Group) : (s.setGroup g r).calls = s.calls := rfl
@[simp] theorem State.setGroup_contexts (s : State) (g : GroupIx) (r : Group) : (s.setGroup g r).contexts = s.contexts := rfl
@[simp] theorem State.setGroup_highway (s : State) (g : GroupIx) (r : Group) : (s.setGroup g r).highway = s.highway := rfl
@[simp] theorem State.setGroup_linkA (s : State) (g : GroupIx) (r : Group) : (s.setGroup g r).linkA = s.linkA := rfl
@[simp] theorem State.setGroup_linkB (s : State) (g : GroupIx) (r : Group) : (s.setGroup g r).linkB = s.linkB := rfl
@[simp] theorem State.setGroup_queue (s : State) (g : GroupIx) (r : Group) : (s.setGroup g r).queue = s.queue := rfl
@[simp] theorem State.setGroup_nextSerial (s : State) (g : GroupIx) (r : Group) : (s.setGroup g r).nextSerial = s.nextSerial := rfl
@[simp] theorem State.setGroup_lastServed (s : State) (g : GroupIx) (r : Group) : (s.setGroup g r).lastServed = s.lastServed := rfl
@[simp] theorem State.setGroup_settings (s : State) (g : GroupIx) (r : Group) : (s.setGroup g r).settings = s.settings := rfl
@[simp] theorem State.setGroup_now (s : State) (g : GroupIx) (r : Group) : (s.setGroup g r).now = s.now := rfl
@[simp] theorem State.setGroup_pending (s : State) (g : GroupIx) (r : Group) : (s.setGroup g r).pending = s.pending := rfl

/-! ### setPort -/

@[simp] theorem State.setPort_entries (s : State) (p : PortIx) (r : Port) : (s.setPort p r).entries = s.entries := rfl
@[simp] theorem State.setPort_groups (s : State) (p : PortIx) (r : Port) : (s.setPort p r).groups = s.groups := rfl
@[simp] theorem State.setPort_ports (s : State) (p : PortIx) (r : Port) : (s.setPort p r).ports = s.ports.set p r := rfl
@[simp] theorem State.setPort_buses (s : State) (p : PortIx) (r : Port) : (s.setPort p r).buses = s.buses := rfl
@[simp] theorem State.setPort_cadences (s : State) (p : PortIx) (r : Port) : (s.setPort p r).cadences = s.cadences := rfl
@[simp] theorem State.setPort_calls (s : State) (p : PortIx) (r : Port) : (s.setPort p r).calls = s.calls := rfl
@[simp] theorem State.setPort_contexts (s : State) (p : PortIx) (r : Port) : (s.setPort p r).contexts = s.contexts := rfl
@[simp] theorem State.setPort_highway (s : State) (p : PortIx) (r : Port) : (s.setPort p r).highway = s.highway := rfl
@[simp] theorem State.setPort_linkA (s : State) (p : PortIx) (r : Port) : (s.setPort p r).linkA = s.linkA := rfl
@[simp] theorem State.setPort_linkB (s : State) (p : PortIx) (r : Port) : (s.setPort p r).linkB = s.linkB := rfl
@[simp] theorem State.setPort_queue (s : State) (p : PortIx) (r : Port) : (s.setPort p r).queue = s.queue := rfl
@[simp] theorem State.setPort_nextSerial (s : State) (p : PortIx) (r : Port) : (s.setPort p r).nextSerial = s.nextSerial := rfl
@[simp] theorem State.setPort_lastServed (s : State) (p : PortIx) (r : Port) : (s.setPort p r).lastServed = s.lastServed := rfl
@[simp] theorem State.setPort_settings (s : State) (p : PortIx) (r : Port) : (s.setPort p r).settings = s.settings := rfl
@[simp] theorem State.setPort_now (s : State) (p : PortIx) (r : Port) : (s.setPort p r).now = s.now := rfl
@[simp] theorem State.setPort_pending (s : State) (p : PortIx) (r : Port) : (s.setPort p r).pending = s.pending := rfl

/-! ### setBus -/

@[simp] theorem State.setBus_entries (s : State) (k : BusIx) (r : Bus) : (s.setBus k r).entries = s.entries := rfl
@[simp] theorem State.setBus_groups (s : State) (k : BusIx) (r : Bus) : (s.setBus k r).groups = s.groups := rfl
@[simp] theorem State.setBus_ports (s : State) (k : BusIx) (r : Bus) : (s.setBus k r).ports = s.ports := rfl
@[simp] theorem State.setBus_buses (s : State) (k : BusIx) (r : Bus) : (s.setBus k r).buses = s.buses.set k r := rfl
@[simp] theorem State.setBus_cadences (s : State) (k : BusIx) (r : Bus) : (s.setBus k r).cadences = s.cadences := rfl
@[simp] theorem State.setBus_calls (s : State) (k : BusIx) (r : Bus) : (s.setBus k r).calls = s.calls := rfl
@[simp] theorem State.setBus_contexts (s : State) (k : BusIx) (r : Bus) : (s.setBus k r).contexts = s.contexts := rfl
@[simp] theorem State.setBus_highway (s : State) (k : BusIx) (r : Bus) : (s.setBus k r).highway = s.highway := rfl
@[simp] theorem State.setBus_linkA (s : State) (k : BusIx) (r : Bus) : (s.setBus k r).linkA = s.linkA := rfl
@[simp] theorem State.setBus_linkB (s : State) (k : BusIx) (r : Bus) : (s.setBus k r).linkB = s.linkB := rfl
@[simp] theorem State.setBus_queue (s : State) (k : BusIx) (r : Bus) : (s.setBus k r).queue = s.queue := rfl
@[simp] theorem State.setBus_nextSerial (s : State) (k : BusIx) (r : Bus) : (s.setBus k r).nextSerial = s.nextSerial := rfl
@[simp] theorem State.setBus_lastServed (s : State) (k : BusIx) (r : Bus) : (s.setBus k r).lastServed = s.lastServed := rfl
@[simp] theorem State.setBus_settings (s : State) (k : BusIx) (r : Bus) : (s.setBus k r).settings = s.settings := rfl
@[simp] theorem State.setBus_now (s : State) (k : BusIx) (r : Bus) : (s.setBus k r).now = s.now := rfl
@[simp] theorem State.setBus_pending (s : State) (k : BusIx) (r : Bus) : (s.setBus k r).pending = s.pending := rfl

/-! ### setCadence -/

@[simp] theorem State.setCadence_entries (s : State) (i : CadenceIx) (r : Cadence) : (s.setCadence i r).entries = s.entries := rfl
@[simp] theorem State.setCadence_groups (s : State) (i : CadenceIx) (r : Cadence) : (s.setCadence i r).groups = s.groups := rfl
@[simp] theorem State.setCadence_ports (s : State) (i : CadenceIx) (r : Cadence) : (s.setCadence i r).ports = s.ports := rfl
@[simp] theorem State.setCadence_buses (s : State) (i : CadenceIx) (r : Cadence) : (s.setCadence i r).buses = s.buses := rfl
@[simp] theorem State.setCadence_cadences (s : State) (i : CadenceIx) (r : Cadence) : (s.setCadence i r).cadences = s.cadences.set i r := rfl
@[simp] theorem State.setCadence_calls (s : State) (i : CadenceIx) (r : Cadence) : (s.setCadence i r).calls = s.calls := rfl
@[simp] theorem State.setCadence_contexts (s : State) (i : CadenceIx) (r : Cadence) : (s.setCadence i r).contexts = s.contexts := rfl
@[simp] theorem State.setCadence_highway (s : State) (i : CadenceIx) (r : Cadence) : (s.setCadence i r).highway = s.highway := rfl
@[simp] theorem State.setCadence_linkA (s : State) (i : CadenceIx) (r : Cadence) : (s.setCadence i r).linkA = s.linkA := rfl
@[simp] theorem State.setCadence_linkB (s : State) (i : CadenceIx) (r : Cadence) : (s.setCadence i r).linkB = s.linkB := rfl
@[simp] theorem State.setCadence_queue (s : State) (i : CadenceIx) (r : Cadence) : (s.setCadence i r).queue = s.queue := rfl
@[simp] theorem State.setCadence_nextSerial (s : State) (i : CadenceIx) (r : Cadence) : (s.setCadence i r).nextSerial = s.nextSerial := rfl
@[simp] theorem State.setCadence_lastServed (s : State) (i : CadenceIx) (r : Cadence) : (s.setCadence i r).lastServed = s.lastServed := rfl
@[simp] theorem State.setCadence_settings (s : State) (i : CadenceIx) (r : Cadence) : (s.setCadence i r).settings = s.settings := rfl
@[simp] theorem State.setCadence_now (s : State) (i : CadenceIx) (r : Cadence) : (s.setCadence i r).now = s.now := rfl
@[simp] theorem State.setCadence_pending (s : State) (i : CadenceIx) (r : Cadence) : (s.setCadence i r).pending = s.pending := rfl

/-! ### setCall -/

@[simp] theorem State.setCall_entries (s : State) (c : CallIx) (r : Call) : (s.setCall c r).entries = s.entries := rfl
@[simp] theorem State.setCall_groups (s : State) (c : CallIx) (r : Call) : (s.setCall c r).groups = s.groups := rfl
@[simp] theorem State.setCall_ports (s : State) (c : CallIx) (r : Call) : (s.setCall c r).ports = s.ports := rfl
@[simp] theorem State.setCall_buses (s : State) (c : CallIx) (r : Call) : (s.setCall c r).buses = s.buses := rfl
@[simp] theorem State.setCall_cadences (s : State) (c : CallIx) (r : Call) : (s.setCall c r).cadences = s.cadences := rfl
@[simp] theorem State.setCall_calls (s : State) (c : CallIx) (r : Call) : (s.setCall c r).calls = s.calls.set c r := rfl
@[simp] theorem State.setCall_contexts (s : State) (c : CallIx) (r : Call) : (s.setCall c r).contexts = s.contexts := rfl
@[simp] theorem State.setCall_highway (s : State) (c : CallIx) (r : Call) : (s.setCall c r).highway = s.highway := rfl
@[simp] theorem State.setCall_linkA (s : State) (c : CallIx) (r : Call) : (s.setCall c r).linkA = s.linkA := rfl
@[simp] theorem State.setCall_linkB (s : State) (c : CallIx) (r : Call) : (s.setCall c r).linkB = s.linkB := rfl
@[simp] theorem State.setCall_queue (s : State) (c : CallIx) (r : Call) : (s.setCall c r).queue = s.queue := rfl
@[simp] theorem State.setCall_nextSerial (s : State) (c : CallIx) (r : Call) : (s.setCall c r).nextSerial = s.nextSerial := rfl
@[simp] theorem State.setCall_lastServed (s : State) (c : CallIx) (r : Call) : (s.setCall c r).lastServed = s.lastServed := rfl
@[simp] theorem State.setCall_settings (s : State) (c : CallIx) (r : Call) : (s.setCall c r).settings = s.settings := rfl
@[simp] theorem State.setCall_now (s : State) (c : CallIx) (r : Call) : (s.setCall c r).now = s.now := rfl
@[simp] theorem State.setCall_pending (s : State) (c : CallIx) (r : Call) : (s.setCall c r).pending = s.pending := rfl

/-! ### setContext -/

@[simp] theorem State.setContext_entries (s : State) (x : ContextIx) (r : Option ContextRec) : (s.setContext x r).entries = s.entries := rfl
@[simp] theorem State.setContext_groups (s : State) (x : ContextIx) (r : Option ContextRec) : (s.setContext x r).groups = s.groups := rfl
@[simp] theorem State.setContext_ports (s : State) (x : ContextIx) (r : Option ContextRec) : (s.setContext x r).ports = s.ports := rfl
@[simp] theorem State.setContext_buses (s : State) (x : ContextIx) (r : Option ContextRec) : (s.setContext x r).buses = s.buses := rfl
@[simp] theorem State.setContext_cadences (s : State) (x : ContextIx) (r : Option ContextRec) : (s.setContext x r).cadences = s.cadences := rfl
@[simp] theorem State.setContext_calls (s : State) (x : ContextIx) (r : Option ContextRec) : (s.setContext x r).calls = s.calls := rfl
@[simp] theorem State.setContext_contexts (s : State) (x : ContextIx) (r : Option ContextRec) : (s.setContext x r).contexts = s.contexts.set x r := rfl
@[simp] theorem State.setContext_highway (s : State) (x : ContextIx) (r : Option ContextRec) : (s.setContext x r).highway = s.highway := rfl
@[simp] theorem State.setContext_linkA (s : State) (x : ContextIx) (r : Option ContextRec) : (s.setContext x r).linkA = s.linkA := rfl
@[simp] theorem State.setContext_linkB (s : State) (x : ContextIx) (r : Option ContextRec) : (s.setContext x r).linkB = s.linkB := rfl
@[simp] theorem State.setContext_queue (s : State) (x : ContextIx) (r : Option ContextRec) : (s.setContext x r).queue = s.queue := rfl
@[simp] theorem State.setContext_nextSerial (s : State) (x : ContextIx) (r : Option ContextRec) : (s.setContext x r).nextSerial = s.nextSerial := rfl
@[simp] theorem State.setContext_lastServed (s : State) (x : ContextIx) (r : Option ContextRec) : (s.setContext x r).lastServed = s.lastServed := rfl
@[simp] theorem State.setContext_settings (s : State) (x : ContextIx) (r : Option ContextRec) : (s.setContext x r).settings = s.settings := rfl
@[simp] theorem State.setContext_now (s : State) (x : ContextIx) (r : Option ContextRec) : (s.setContext x r).now = s.now := rfl
@[simp] theorem State.setContext_pending (s : State) (x : ContextIx) (r : Option ContextRec) : (s.setContext x r).pending = s.pending := rfl

/-! ### setSettings -/

@[simp] theorem State.setSettings_entries (s : State) (t : Settings) : (s.setSettings t).entries = s.entries := rfl
@[simp] theorem State.setSettings_groups (s : State) (t : Settings) : (s.setSettings t).groups = s.groups := rfl
@[simp] theorem State.setSettings_ports (s : State) (t : Settings) : (s.setSettings t).ports = s.ports := rfl
@[simp] theorem State.setSettings_buses (s : State) (t : Settings) : (s.setSettings t).buses = s.buses := rfl
@[simp] theorem State.setSettings_cadences (s : State) (t : Settings) : (s.setSettings t).cadences = s.cadences := rfl
@[simp] theorem State.setSettings_calls (s : State) (t : Settings) : (s.setSettings t).calls = s.calls := rfl
@[simp] theorem State.setSettings_contexts (s : State) (t : Settings) : (s.setSettings t).contexts = s.contexts := rfl
@[simp] theorem State.setSettings_highway (s : State) (t : Settings) : (s.setSettings t).highway = s.highway := rfl
@[simp] theorem State.setSettings_linkA (s : State) (t : Settings) : (s.setSettings t).linkA = s.linkA := rfl
@[simp] theorem State.setSettings_linkB (s : State) (t : Settings) : (s.setSettings t).linkB = s.linkB := rfl
@[simp] theorem State.setSettings_queue (s : State) (t : Settings) : (s.setSettings t).queue = s.queue := rfl
@[simp] theorem State.setSettings_nextSerial (s : State) (t : Settings) : (s.setSettings t).nextSerial = s.nextSerial := rfl
@[simp] theorem State.setSettings_lastServed (s : State) (t : Settings) : (s.setSettings t).lastServed = s.lastServed := rfl
@[simp] theorem State.setSettings_settings (s : State) (t : Settings) : (s.setSettings t).settings = t := rfl
@[simp] theorem State.setSettings_now (s : State) (t : Settings) : (s.setSettings t).now = s.now := rfl
@[simp] theorem State.setSettings_pending (s : State) (t : Settings) : (s.setSettings t).pending = s.pending := rfl

/-! ### setHighway -/

@[simp] theorem State.setHighway_entries (s : State) (h : Highway) : (s.setHighway h).entries = s.entries := rfl
@[simp] theorem State.setHighway_groups (s : State) (h : Highway) : (s.setHighway h).groups = s.groups := rfl
@[simp] theorem State.setHighway_ports (s : State) (h : Highway) : (s.setHighway h).ports = s.ports := rfl
@[simp] theorem State.setHighway_buses (s : State) (h : Highway) : (s.setHighway h).buses = s.buses := rfl
@[simp] theorem State.setHighway_cadences (s : State) (h : Highway) : (s.setHighway h).cadences = s.cadences := rfl
@[simp] theorem State.setHighway_calls (s : State) (h : Highway) : (s.setHighway h).calls = s.calls := rfl
@[simp] theorem State.setHighway_contexts (s : State) (h : Highway) : (s.setHighway h).contexts = s.contexts := rfl
@[simp] theorem State.setHighway_highway (s : State) (h : Highway) : (s.setHighway h).highway = h := rfl
@[simp] theorem State.setHighway_linkA (s : State) (h : Highway) : (s.setHighway h).linkA = s.linkA := rfl
@[simp] theorem State.setHighway_linkB (s : State) (h : Highway) : (s.setHighway h).linkB = s.linkB := rfl
@[simp] theorem State.setHighway_queue (s : State) (h : Highway) : (s.setHighway h).queue = s.queue := rfl
@[simp] theorem State.setHighway_nextSerial (s : State) (h : Highway) : (s.setHighway h).nextSerial = s.nextSerial := rfl
@[simp] theorem State.setHighway_lastServed (s : State) (h : Highway) : (s.setHighway h).lastServed = s.lastServed := rfl
@[simp] theorem State.setHighway_settings (s : State) (h : Highway) : (s.setHighway h).settings = s.settings := rfl
@[simp] theorem State.setHighway_now (s : State) (h : Highway) : (s.setHighway h).now = s.now := rfl
@[simp] theorem State.setHighway_pending (s : State) (h : Highway) : (s.setHighway h).pending = s.pending := rfl

/-! ### setQueue -/

@[simp] theorem State.setQueue_entries (s : State) (q : List QueueEntry) : (s.setQueue q).entries = s.entries := rfl
@[simp] theorem State.setQueue_groups (s : State) (q : List QueueEntry) : (s.setQueue q).groups = s.groups := rfl
@[simp] theorem State.setQueue_ports (s : State) (q : List QueueEntry) : (s.setQueue q).ports = s.ports := rfl
@[simp] theorem State.setQueue_buses (s : State) (q : List QueueEntry) : (s.setQueue q).buses = s.buses := rfl
@[simp] theorem State.setQueue_cadences (s : State) (q : List QueueEntry) : (s.setQueue q).cadences = s.cadences := rfl
@[simp] theorem State.setQueue_calls (s : State) (q : List QueueEntry) : (s.setQueue q).calls = s.calls := rfl
@[simp] theorem State.setQueue_contexts (s : State) (q : List QueueEntry) : (s.setQueue q).contexts = s.contexts := rfl
@[simp] theorem State.setQueue_highway (s : State) (q : List QueueEntry) : (s.setQueue q).highway = s.highway := rfl
@[simp] theorem State.setQueue_linkA (s : State) (q : List QueueEntry) : (s.setQueue q).linkA = s.linkA := rfl
@[simp] theorem State.setQueue_linkB (s : State) (q : List QueueEntry) : (s.setQueue q).linkB = s.linkB := rfl
@[simp] theorem State.setQueue_queue (s : State) (q : List QueueEntry) : (s.setQueue q).queue = q := rfl
@[simp] theorem State.setQueue_nextSerial (s : State) (q : List QueueEntry) : (s.setQueue q).nextSerial = s.nextSerial := rfl
@[simp] theorem State.setQueue_lastServed (s : State) (q : List QueueEntry) : (s.setQueue q).lastServed = s.lastServed := rfl
@[simp] theorem State.setQueue_settings (s : State) (q : List QueueEntry) : (s.setQueue q).settings = s.settings := rfl
@[simp] theorem State.setQueue_now (s : State) (q : List QueueEntry) : (s.setQueue q).now = s.now := rfl
@[simp] theorem State.setQueue_pending (s : State) (q : List QueueEntry) : (s.setQueue q).pending = s.pending := rfl

/-! ### setContexts -/

@[simp] theorem State.setContexts_entries (s : State) (v : Vector (Option ContextRec) 192) : (s.setContexts v).entries = s.entries := rfl
@[simp] theorem State.setContexts_groups (s : State) (v : Vector (Option ContextRec) 192) : (s.setContexts v).groups = s.groups := rfl
@[simp] theorem State.setContexts_ports (s : State) (v : Vector (Option ContextRec) 192) : (s.setContexts v).ports = s.ports := rfl
@[simp] theorem State.setContexts_buses (s : State) (v : Vector (Option ContextRec) 192) : (s.setContexts v).buses = s.buses := rfl
@[simp] theorem State.setContexts_cadences (s : State) (v : Vector (Option ContextRec) 192) : (s.setContexts v).cadences = s.cadences := rfl
@[simp] theorem State.setContexts_calls (s : State) (v : Vector (Option ContextRec) 192) : (s.setContexts v).calls = s.calls := rfl
@[simp] theorem State.setContexts_contexts (s : State) (v : Vector (Option ContextRec) 192) : (s.setContexts v).contexts = v := rfl
@[simp] theorem State.setContexts_highway (s : State) (v : Vector (Option ContextRec) 192) : (s.setContexts v).highway = s.highway := rfl
@[simp] theorem State.setContexts_linkA (s : State) (v : Vector (Option ContextRec) 192) : (s.setContexts v).linkA = s.linkA := rfl
@[simp] theorem State.setContexts_linkB (s : State) (v : Vector (Option ContextRec) 192) : (s.setContexts v).linkB = s.linkB := rfl
@[simp] theorem State.setContexts_queue (s : State) (v : Vector (Option ContextRec) 192) : (s.setContexts v).queue = s.queue := rfl
@[simp] theorem State.setContexts_nextSerial (s : State) (v : Vector (Option ContextRec) 192) : (s.setContexts v).nextSerial = s.nextSerial := rfl
@[simp] theorem State.setContexts_lastServed (s : State) (v : Vector (Option ContextRec) 192) : (s.setContexts v).lastServed = s.lastServed := rfl
@[simp] theorem State.setContexts_settings (s : State) (v : Vector (Option ContextRec) 192) : (s.setContexts v).settings = s.settings := rfl
@[simp] theorem State.setContexts_now (s : State) (v : Vector (Option ContextRec) 192) : (s.setContexts v).now = s.now := rfl
@[simp] theorem State.setContexts_pending (s : State) (v : Vector (Option ContextRec) 192) : (s.setContexts v).pending = s.pending := rfl

/-! ### setCalls -/

@[simp] theorem State.setCalls_entries (s : State) (v : Vector Call 128) : (s.setCalls v).entries = s.entries := rfl
@[simp] theorem State.setCalls_groups (s : State) (v : Vector Call 128) : (s.setCalls v).groups = s.groups := rfl
@[simp] theorem State.setCalls_ports (s : State) (v : Vector Call 128) : (s.setCalls v).ports = s.ports := rfl
@[simp] theorem State.setCalls_buses (s : State) (v : Vector Call 128) : (s.setCalls v).buses = s.buses := rfl
@[simp] theorem State.setCalls_cadences (s : State) (v : Vector Call 128) : (s.setCalls v).cadences = s.cadences := rfl
@[simp] theorem State.setCalls_calls (s : State) (v : Vector Call 128) : (s.setCalls v).calls = v := rfl
@[simp] theorem State.setCalls_contexts (s : State) (v : Vector Call 128) : (s.setCalls v).contexts = s.contexts := rfl
@[simp] theorem State.setCalls_highway (s : State) (v : Vector Call 128) : (s.setCalls v).highway = s.highway := rfl
@[simp] theorem State.setCalls_linkA (s : State) (v : Vector Call 128) : (s.setCalls v).linkA = s.linkA := rfl
@[simp] theorem State.setCalls_linkB (s : State) (v : Vector Call 128) : (s.setCalls v).linkB = s.linkB := rfl
@[simp] theorem State.setCalls_queue (s : State) (v : Vector Call 128) : (s.setCalls v).queue = s.queue := rfl
@[simp] theorem State.setCalls_nextSerial (s : State) (v : Vector Call 128) : (s.setCalls v).nextSerial = s.nextSerial := rfl
@[simp] theorem State.setCalls_lastServed (s : State) (v : Vector Call 128) : (s.setCalls v).lastServed = s.lastServed := rfl
@[simp] theorem State.setCalls_settings (s : State) (v : Vector Call 128) : (s.setCalls v).settings = s.settings := rfl
@[simp] theorem State.setCalls_now (s : State) (v : Vector Call 128) : (s.setCalls v).now = s.now := rfl
@[simp] theorem State.setCalls_pending (s : State) (v : Vector Call 128) : (s.setCalls v).pending = s.pending := rfl

/-! ### setPorts -/

@[simp] theorem State.setPorts_entries (s : State) (v : Vector Port 256) : (s.setPorts v).entries = s.entries := rfl
@[simp] theorem State.setPorts_groups (s : State) (v : Vector Port 256) : (s.setPorts v).groups = s.groups := rfl
@[simp] theorem State.setPorts_ports (s : State) (v : Vector Port 256) : (s.setPorts v).ports = v := rfl
@[simp] theorem State.setPorts_buses (s : State) (v : Vector Port 256) : (s.setPorts v).buses = s.buses := rfl
@[simp] theorem State.setPorts_cadences (s : State) (v : Vector Port 256) : (s.setPorts v).cadences = s.cadences := rfl
@[simp] theorem State.setPorts_calls (s : State) (v : Vector Port 256) : (s.setPorts v).calls = s.calls := rfl
@[simp] theorem State.setPorts_contexts (s : State) (v : Vector Port 256) : (s.setPorts v).contexts = s.contexts := rfl
@[simp] theorem State.setPorts_highway (s : State) (v : Vector Port 256) : (s.setPorts v).highway = s.highway := rfl
@[simp] theorem State.setPorts_linkA (s : State) (v : Vector Port 256) : (s.setPorts v).linkA = s.linkA := rfl
@[simp] theorem State.setPorts_linkB (s : State) (v : Vector Port 256) : (s.setPorts v).linkB = s.linkB := rfl
@[simp] theorem State.setPorts_queue (s : State) (v : Vector Port 256) : (s.setPorts v).queue = s.queue := rfl
@[simp] theorem State.setPorts_nextSerial (s : State) (v : Vector Port 256) : (s.setPorts v).nextSerial = s.nextSerial := rfl
@[simp] theorem State.setPorts_lastServed (s : State) (v : Vector Port 256) : (s.setPorts v).lastServed = s.lastServed := rfl
@[simp] theorem State.setPorts_settings (s : State) (v : Vector Port 256) : (s.setPorts v).settings = s.settings := rfl
@[simp] theorem State.setPorts_now (s : State) (v : Vector Port 256) : (s.setPorts v).now = s.now := rfl
@[simp] theorem State.setPorts_pending (s : State) (v : Vector Port 256) : (s.setPorts v).pending = s.pending := rfl

/-! ### setEntries -/

@[simp] theorem State.setEntries_entries (s : State) (v : Vector (Option Entry) 512) : (s.setEntries v).entries = v := rfl
@[simp] theorem State.setEntries_groups (s : State) (v : Vector (Option Entry) 512) : (s.setEntries v).groups = s.groups := rfl
@[simp] theorem State.setEntries_ports (s : State) (v : Vector (Option Entry) 512) : (s.setEntries v).ports = s.ports := rfl
@[simp] theorem State.setEntries_buses (s : State) (v : Vector (Option Entry) 512) : (s.setEntries v).buses = s.buses := rfl
@[simp] theorem State.setEntries_cadences (s : State) (v : Vector (Option Entry) 512) : (s.setEntries v).cadences = s.cadences := rfl
@[simp] theorem State.setEntries_calls (s : State) (v : Vector (Option Entry) 512) : (s.setEntries v).calls = s.calls := rfl
@[simp] theorem State.setEntries_contexts (s : State) (v : Vector (Option Entry) 512) : (s.setEntries v).contexts = s.contexts := rfl
@[simp] theorem State.setEntries_highway (s : State) (v : Vector (Option Entry) 512) : (s.setEntries v).highway = s.highway := rfl
@[simp] theorem State.setEntries_linkA (s : State) (v : Vector (Option Entry) 512) : (s.setEntries v).linkA = s.linkA := rfl
@[simp] theorem State.setEntries_linkB (s : State) (v : Vector (Option Entry) 512) : (s.setEntries v).linkB = s.linkB := rfl
@[simp] theorem State.setEntries_queue (s : State) (v : Vector (Option Entry) 512) : (s.setEntries v).queue = s.queue := rfl
@[simp] theorem State.setEntries_nextSerial (s : State) (v : Vector (Option Entry) 512) : (s.setEntries v).nextSerial = s.nextSerial := rfl
@[simp] theorem State.setEntries_lastServed (s : State) (v : Vector (Option Entry) 512) : (s.setEntries v).lastServed = s.lastServed := rfl
@[simp] theorem State.setEntries_settings (s : State) (v : Vector (Option Entry) 512) : (s.setEntries v).settings = s.settings := rfl
@[simp] theorem State.setEntries_now (s : State) (v : Vector (Option Entry) 512) : (s.setEntries v).now = s.now := rfl
@[simp] theorem State.setEntries_pending (s : State) (v : Vector (Option Entry) 512) : (s.setEntries v).pending = s.pending := rfl

/-! ### setGroups -/

@[simp] theorem State.setGroups_entries (s : State) (v : Vector Group 32) : (s.setGroups v).entries = s.entries := rfl
@[simp] theorem State.setGroups_groups (s : State) (v : Vector Group 32) : (s.setGroups v).groups = v := rfl
@[simp] theorem State.setGroups_ports (s : State) (v : Vector Group 32) : (s.setGroups v).ports = s.ports := rfl
@[simp] theorem State.setGroups_buses (s : State) (v : Vector Group 32) : (s.setGroups v).buses = s.buses := rfl
@[simp] theorem State.setGroups_cadences (s : State) (v : Vector Group 32) : (s.setGroups v).cadences = s.cadences := rfl
@[simp] theorem State.setGroups_calls (s : State) (v : Vector Group 32) : (s.setGroups v).calls = s.calls := rfl
@[simp] theorem State.setGroups_contexts (s : State) (v : Vector Group 32) : (s.setGroups v).contexts = s.contexts := rfl
@[simp] theorem State.setGroups_highway (s : State) (v : Vector Group 32) : (s.setGroups v).highway = s.highway := rfl
@[simp] theorem State.setGroups_linkA (s : State) (v : Vector Group 32) : (s.setGroups v).linkA = s.linkA := rfl
@[simp] theorem State.setGroups_linkB (s : State) (v : Vector Group 32) : (s.setGroups v).linkB = s.linkB := rfl
@[simp] theorem State.setGroups_queue (s : State) (v : Vector Group 32) : (s.setGroups v).queue = s.queue := rfl
@[simp] theorem State.setGroups_nextSerial (s : State) (v : Vector Group 32) : (s.setGroups v).nextSerial = s.nextSerial := rfl
@[simp] theorem State.setGroups_lastServed (s : State) (v : Vector Group 32) : (s.setGroups v).lastServed = s.lastServed := rfl
@[simp] theorem State.setGroups_settings (s : State) (v : Vector Group 32) : (s.setGroups v).settings = s.settings := rfl
@[simp] theorem State.setGroups_now (s : State) (v : Vector Group 32) : (s.setGroups v).now = s.now := rfl
@[simp] theorem State.setGroups_pending (s : State) (v : Vector Group 32) : (s.setGroups v).pending = s.pending := rfl

/-! ### reachTime -/

@[simp] theorem State.reachTime_entries (s : State) (t : Nat) : (s.reachTime t).entries = s.entries := rfl
@[simp] theorem State.reachTime_groups (s : State) (t : Nat) : (s.reachTime t).groups = s.groups := rfl
@[simp] theorem State.reachTime_ports (s : State) (t : Nat) : (s.reachTime t).ports = s.ports := rfl
@[simp] theorem State.reachTime_buses (s : State) (t : Nat) : (s.reachTime t).buses = s.buses := rfl
@[simp] theorem State.reachTime_cadences (s : State) (t : Nat) : (s.reachTime t).cadences = s.cadences := rfl
@[simp] theorem State.reachTime_calls (s : State) (t : Nat) : (s.reachTime t).calls = s.calls := rfl
@[simp] theorem State.reachTime_contexts (s : State) (t : Nat) : (s.reachTime t).contexts = s.contexts := rfl
@[simp] theorem State.reachTime_highway (s : State) (t : Nat) : (s.reachTime t).highway = s.highway := rfl
@[simp] theorem State.reachTime_linkA (s : State) (t : Nat) : (s.reachTime t).linkA = s.linkA := rfl
@[simp] theorem State.reachTime_linkB (s : State) (t : Nat) : (s.reachTime t).linkB = s.linkB := rfl
@[simp] theorem State.reachTime_queue (s : State) (t : Nat) : (s.reachTime t).queue = s.queue := rfl
@[simp] theorem State.reachTime_nextSerial (s : State) (t : Nat) : (s.reachTime t).nextSerial = s.nextSerial := rfl
@[simp] theorem State.reachTime_lastServed (s : State) (t : Nat) : (s.reachTime t).lastServed = s.lastServed := rfl
@[simp] theorem State.reachTime_settings (s : State) (t : Nat) : (s.reachTime t).settings = s.settings := rfl
@[simp] theorem State.reachTime_now (s : State) (t : Nat) : (s.reachTime t).now = max s.now t := rfl
@[simp] theorem State.reachTime_pending (s : State) (t : Nat) : (s.reachTime t).pending = s.pending := rfl

/-! ### setLink -/

@[simp] theorem State.setLink_entries (s : State) (x : Side) (l : Link) : (s.setLink x l).entries = s.entries := by
  cases x <;> rfl
@[simp] theorem State.setLink_groups (s : State) (x : Side) (l : Link) : (s.setLink x l).groups = s.groups := by
  cases x <;> rfl
@[simp] theorem State.setLink_ports (s : State) (x : Side) (l : Link) : (s.setLink x l).ports = s.ports := by
  cases x <;> rfl
@[simp] theorem State.setLink_buses (s : State) (x : Side) (l : Link) : (s.setLink x l).buses = s.buses := by
  cases x <;> rfl
@[simp] theorem State.setLink_cadences (s : State) (x : Side) (l : Link) : (s.setLink x l).cadences = s.cadences := by
  cases x <;> rfl
@[simp] theorem State.setLink_calls (s : State) (x : Side) (l : Link) : (s.setLink x l).calls = s.calls := by
  cases x <;> rfl
@[simp] theorem State.setLink_contexts (s : State) (x : Side) (l : Link) : (s.setLink x l).contexts = s.contexts := by
  cases x <;> rfl
@[simp] theorem State.setLink_highway (s : State) (x : Side) (l : Link) : (s.setLink x l).highway = s.highway := by
  cases x <;> rfl
@[simp] theorem State.setLink_queue (s : State) (x : Side) (l : Link) : (s.setLink x l).queue = s.queue := by
  cases x <;> rfl
@[simp] theorem State.setLink_nextSerial (s : State) (x : Side) (l : Link) : (s.setLink x l).nextSerial = s.nextSerial := by
  cases x <;> rfl
@[simp] theorem State.setLink_lastServed (s : State) (x : Side) (l : Link) : (s.setLink x l).lastServed = s.lastServed := by
  cases x <;> rfl
@[simp] theorem State.setLink_settings (s : State) (x : Side) (l : Link) : (s.setLink x l).settings = s.settings := by
  cases x <;> rfl
@[simp] theorem State.setLink_now (s : State) (x : Side) (l : Link) : (s.setLink x l).now = s.now := by
  cases x <;> rfl
@[simp] theorem State.setLink_pending (s : State) (x : Side) (l : Link) : (s.setLink x l).pending = s.pending := by
  cases x <;> rfl
@[simp] theorem State.setLink_a_linkA (s : State) (l : Link) : (s.setLink .a l).linkA = l := rfl
@[simp] theorem State.setLink_a_linkB (s : State) (l : Link) : (s.setLink .a l).linkB = s.linkB := rfl
@[simp] theorem State.setLink_b_linkA (s : State) (l : Link) : (s.setLink .b l).linkA = s.linkA := rfl
@[simp] theorem State.setLink_b_linkB (s : State) (l : Link) : (s.setLink .b l).linkB = l := rfl

theorem State.link_setLink (s : State) (x y : Side) (l : Link) :
    (s.setLink x l).link y = if y = x then l else s.link y := by
  cases x <;> cases y <;> rfl

@[simp] theorem State.link_setLink_same (s : State) (x : Side) (l : Link) : (s.setLink x l).link x = l := by
  cases x <;> rfl

@[simp] theorem State.link_setLink_other (s : State) (x : Side) (l : Link) :
    (s.setLink x l).link x.other = s.link x.other := by
  cases x <;> rfl

/-! ### One record read after one is written -/

theorem State.entry_setEntry (s : State) (i j : EntryIx) (r : Option Entry) :
    (s.setEntry i r).entry j = if j = i then r else s.entry j := by
  by_cases h : j = i
  · subst h; simp [State.entry, State.setEntry]
  · have h2 : i.val ≠ j.val := fun e => h (Fin.ext e.symm)
    simp [State.entry, State.setEntry, h, Vector.getElem_set_ne, h2]

@[simp] theorem State.entry_setEntry_same (s : State) (i : EntryIx) (r : Option Entry) : (s.setEntry i r).entry i = r := by
  simp [State.entry_setEntry]

theorem State.group_setGroup (s : State) (i j : GroupIx) (r : Group) :
    (s.setGroup i r).group j = if j = i then r else s.group j := by
  by_cases h : j = i
  · subst h; simp [State.group, State.setGroup]
  · have h2 : i.val ≠ j.val := fun e => h (Fin.ext e.symm)
    simp [State.group, State.setGroup, h, Vector.getElem_set_ne, h2]

@[simp] theorem State.group_setGroup_same (s : State) (i : GroupIx) (r : Group) : (s.setGroup i r).group i = r := by
  simp [State.group_setGroup]

theorem State.port_setPort (s : State) (i j : PortIx) (r : Port) :
    (s.setPort i r).port j = if j = i then r else s.port j := by
  by_cases h : j = i
  · subst h; simp [State.port, State.setPort]
  · have h2 : i.val ≠ j.val := fun e => h (Fin.ext e.symm)
    simp [State.port, State.setPort, h, Vector.getElem_set_ne, h2]

@[simp] theorem State.port_setPort_same (s : State) (i : PortIx) (r : Port) : (s.setPort i r).port i = r := by
  simp [State.port_setPort]

theorem State.bus_setBus (s : State) (i j : BusIx) (r : Bus) :
    (s.setBus i r).bus j = if j = i then r else s.bus j := by
  by_cases h : j = i
  · subst h; simp [State.bus, State.setBus]
  · have h2 : i.val ≠ j.val := fun e => h (Fin.ext e.symm)
    simp [State.bus, State.setBus, h, Vector.getElem_set_ne, h2]

@[simp] theorem State.bus_setBus_same (s : State) (i : BusIx) (r : Bus) : (s.setBus i r).bus i = r := by
  simp [State.bus_setBus]

theorem State.cadence_setCadence (s : State) (i j : CadenceIx) (r : Cadence) :
    (s.setCadence i r).cadence j = if j = i then r else s.cadence j := by
  by_cases h : j = i
  · subst h; simp [State.cadence, State.setCadence]
  · have h2 : i.val ≠ j.val := fun e => h (Fin.ext e.symm)
    simp [State.cadence, State.setCadence, h, Vector.getElem_set_ne, h2]

@[simp] theorem State.cadence_setCadence_same (s : State) (i : CadenceIx) (r : Cadence) : (s.setCadence i r).cadence i = r := by
  simp [State.cadence_setCadence]

theorem State.call_setCall (s : State) (i j : CallIx) (r : Call) :
    (s.setCall i r).call j = if j = i then r else s.call j := by
  by_cases h : j = i
  · subst h; simp [State.call, State.setCall]
  · have h2 : i.val ≠ j.val := fun e => h (Fin.ext e.symm)
    simp [State.call, State.setCall, h, Vector.getElem_set_ne, h2]

@[simp] theorem State.call_setCall_same (s : State) (i : CallIx) (r : Call) : (s.setCall i r).call i = r := by
  simp [State.call_setCall]

theorem State.context_setContext (s : State) (i j : ContextIx) (r : Option ContextRec) :
    (s.setContext i r).context j = if j = i then r else s.context j := by
  by_cases h : j = i
  · subst h; simp [State.context, State.setContext]
  · have h2 : i.val ≠ j.val := fun e => h (Fin.ext e.symm)
    simp [State.context, State.setContext, h, Vector.getElem_set_ne, h2]

@[simp] theorem State.context_setContext_same (s : State) (i : ContextIx) (r : Option ContextRec) : (s.setContext i r).context i = r := by
  simp [State.context_setContext]

end Sys2Proof.Machine
end

