-- ==== Sys2Proof/Laws/Ops.lean ====
section
/-! SUPPORT. What the shared operations of Machine/Ops.lean and Machine/Queue.lean can do, each said once: an event in progress,
the marking at its end, a request's completion and its issue, a request byte. -/

namespace Sys2Proof.Machine

/-! ## An event in progress -/

@[simp] theorem Work.start_st (s : State) (c : Cause) : (Work.start s c).st = s := rfl
@[simp] theorem Work.start_cause (s : State) (c : Cause) : (Work.start s c).cause = c := rfl
@[simp] theorem Work.start_toA (s : State) (c : Cause) : (Work.start s c).toA = [] := rfl
@[simp] theorem Work.start_toB (s : State) (c : Cause) : (Work.start s c).toB = [] := rfl
@[simp] theorem begin_st (x : Side) (s : State) : (begin_ x s).st = s := rfl
@[simp] theorem begin_cause (x : Side) (s : State) : (begin_ x s).cause = .request x := rfl
@[simp] theorem begin_toA (x : Side) (s : State) : (begin_ x s).toA = [] := rfl
@[simp] theorem begin_toB (x : Side) (s : State) : (begin_ x s).toB = [] := rfl

@[simp] theorem Work.onState_st (w : Work) (f : State → State) : (w.onState f).st = f w.st := rfl
@[simp] theorem Work.onState_cause (w : Work) (f : State → State) : (w.onState f).cause = w.cause := rfl
@[simp] theorem Work.onState_toA (w : Work) (f : State → State) : (w.onState f).toA = w.toA := rfl
@[simp] theorem Work.onState_toB (w : Work) (f : State → State) : (w.onState f).toB = w.toB := rfl

@[simp] theorem Work.onPort_st (w : Work) (p : PortIx) (f : Port → Port) :
    (w.onPort p f).st = w.st.setPort p (f (w.st.port p)) := rfl
@[simp] theorem Work.onPort_cause (w : Work) (p : PortIx) (f : Port → Port) : (w.onPort p f).cause = w.cause := rfl
@[simp] theorem Work.onPort_toA (w : Work) (p : PortIx) (f : Port → Port) : (w.onPort p f).toA = w.toA := rfl
@[simp] theorem Work.onPort_toB (w : Work) (p : PortIx) (f : Port → Port) : (w.onPort p f).toB = w.toB := rfl

@[simp] theorem Work.onEntry_st (w : Work) (e : EntryIx) (f : Entry → Entry) :
    (w.onEntry e f).st = w.st.setEntry e ((w.st.entry e).map f) := rfl
@[simp] theorem Work.onEntry_cause (w : Work) (e : EntryIx) (f : Entry → Entry) : (w.onEntry e f).cause = w.cause := rfl
@[simp] theorem Work.onEntry_toA (w : Work) (e : EntryIx) (f : Entry → Entry) : (w.onEntry e f).toA = w.toA := rfl
@[simp] theorem Work.onEntry_toB (w : Work) (e : EntryIx) (f : Entry → Entry) : (w.onEntry e f).toB = w.toB := rfl

@[simp] theorem Work.onBus_st (w : Work) (k : BusIx) (f : Bus → Bus) :
    (w.onBus k f).st = w.st.setBus k (f (w.st.bus k)) := rfl
@[simp] theorem Work.onBus_cause (w : Work) (k : BusIx) (f : Bus → Bus) : (w.onBus k f).cause = w.cause := rfl
@[simp] theorem Work.onBus_toA (w : Work) (k : BusIx) (f : Bus → Bus) : (w.onBus k f).toA = w.toA := rfl
@[simp] theorem Work.onBus_toB (w : Work) (k : BusIx) (f : Bus → Bus) : (w.onBus k f).toB = w.toB := rfl

@[simp] theorem Work.onCall_st (w : Work) (c : CallIx) (f : CallBody → CallBody) :
    (w.onCall c f).st = w.st.setCall c { w.st.call c with body := (w.st.call c).body.map f } := rfl
@[simp] theorem Work.onCall_cause (w : Work) (c : CallIx) (f : CallBody → CallBody) : (w.onCall c f).cause = w.cause := rfl
@[simp] theorem Work.onCall_toA (w : Work) (c : CallIx) (f : CallBody → CallBody) : (w.onCall c f).toA = w.toA := rfl
@[simp] theorem Work.onCall_toB (w : Work) (c : CallIx) (f : CallBody → CallBody) : (w.onCall c f).toB = w.toB := rfl

@[simp] theorem Work.touchBoth_st (w : Work) (o : Obj) : (w.touchBoth o).st = w.st := rfl
@[simp] theorem Work.touchBoth_cause (w : Work) (o : Obj) : (w.touchBoth o).cause = w.cause := rfl
@[simp] theorem Work.touchBoth_toA (w : Work) (o : Obj) : (w.touchBoth o).toA = o :: w.toA := rfl
@[simp] theorem Work.touchBoth_toB (w : Work) (o : Obj) : (w.touchBoth o).toB = o :: w.toB := rfl

@[simp] theorem Work.touchSide_st (w : Work) (x : Side) (o : Obj) : (w.touchSide x o).st = w.st := by cases x <;> rfl
@[simp] theorem Work.touchSide_cause (w : Work) (x : Side) (o : Obj) : (w.touchSide x o).cause = w.cause := by
  cases x <;> rfl

@[simp] theorem Work.touch_st (w : Work) (o : Obj) : (w.touch o).st = w.st := by
  unfold Work.touch
  split <;> simp

@[simp] theorem Work.touch_cause (w : Work) (o : Obj) : (w.touch o).cause = w.cause := by
  unfold Work.touch
  split <;> simp

/-- R157: what an autonomous event marks, it marks in both lists. -/
theorem Work.touch_autonomous (w : Work) (o : Obj) (h : w.cause = .autonomous) :
    (w.touch o).toA = o :: w.toA ∧ (w.touch o).toB = o :: w.toB := by
  simp [Work.touch, h]

/-- R157: what a request of side A marks, it marks in side B's list. -/
theorem Work.touch_requestA (w : Work) (o : Obj) (h : w.cause = .request .a) :
    (w.touch o).toA = w.toA ∧ (w.touch o).toB = o :: w.toB := by
  simp [Work.touch, h, Side.other, Work.touchSide]

/-- R157: what a request of side B marks, it marks in side A's list. -/
theorem Work.touch_requestB (w : Work) (o : Obj) (h : w.cause = .request .b) :
    (w.touch o).toA = o :: w.toA ∧ (w.touch o).toB = w.toB := by
  simp [Work.touch, h, Side.other, Work.touchSide]

@[simp] theorem Work.recordFor_cause (w : Work) (x : Side) (p : PortIx) (ev : PortEvent) :
    (w.recordFor x p ev).cause = w.cause := by
  unfold Work.recordFor
  split <;> simp

@[simp] theorem Work.recordEvent_cause (w : Work) (p : PortIx) (ev : PortEvent) : (w.recordEvent p ev).cause = w.cause := by
  unfold Work.recordEvent
  split <;> simp

/-- R158: recording an event writes one side's set of the port, or nothing while that side's LINK RESET is held. -/
theorem Work.recordFor_st (w : Work) (x : Side) (p : PortIx) (ev : PortEvent) :
    (w.recordFor x p ev).st = if w.st.resetHeld x then w.st else w.st.setPort p (w.st.withEvent x ev (w.st.port p)) := by
  unfold Work.recordFor State.withEvent
  split <;> simp_all

/-! ## Marking and completion -/

theorem State.markAll_eq (s : State) (x : Side) (os : List Obj) : s.markAll x os = s.setLink x ((s.link x).marked os) := by
  unfold State.markAll Link.marked State.resetHeld
  split
  · cases x <;> rfl
  · rfl

theorem State.placeResponse_eq (s : State) (x : Side) (r : Response) :
    s.placeResponse x r = s.setLink x ((s.link x).answered r) := by
  unfold State.placeResponse Link.answered State.resetHeld
  split
  · cases x <;> rfl
  · rfl

/-- The end of an event changes the report lists and nothing else. -/
theorem Work.finish_eq (w : Work) :
    w.finish = { w.st with
      linkA := w.st.linkA.marked (orderObjs w.toA), linkB := w.st.linkB.marked (orderObjs w.toB) } := by
  simp only [Work.finish, State.markAll_eq]
  rfl

@[simp] theorem Link.marked_nil (l : Link) : l.marked [] = l := by simp [Link.marked]

@[simp] theorem orderObjs_nil : orderObjs [] = [] := rfl

/-- R145: what a completion leaves: the RESPONSE in the requester's list, the marks of the event, the request gone from the
queue. -/
theorem Work.complete_eq (w : Work) (q : QueueEntry) (status : Status) (result : List Byte) :
    w.complete q status result =
      { w.st with
        linkA := (match q.side with
          | .a => w.st.linkA.answered ⟨q.frame.tag, status, result⟩
          | .b => w.st.linkA).marked (orderObjs w.toA)
        linkB := (match q.side with
          | .a => w.st.linkB
          | .b => w.st.linkB.answered ⟨q.frame.tag, status, result⟩).marked (orderObjs w.toB)
        queue := leaveQueue (fun e => e.serial == q.serial) w.st.queue } := by
  simp only [Work.complete, Work.finish_eq, Work.onState_st, Work.onState_toA, Work.onState_toB, State.placeResponse_eq]
  cases q.side <;> rfl

/-- R145: a completion whose event marked nothing in the requester's own list. -/
theorem Work.complete_completed {w : Work} {q : QueueEntry} {status : Status} {result : List Byte} {t : State}
    {marks : List Obj} (ht : w.st = { t with lastServed := q.side })
    (hm : q.side = .a ∧ w.toA = [] ∧ orderObjs w.toB = marks ∨ q.side = .b ∧ w.toB = [] ∧ orderObjs w.toA = marks) :
    w.complete q status result = t.completed q status result marks := by
  rw [Work.complete_eq, ht]
  obtain ⟨hs, ho, rfl⟩ | ⟨hs, ho, rfl⟩ := hm <;> simp [State.completed, hs, ho]

/-! ## The issue of a request (R144, R145) -/

section
variable {α : Type} {code : Byte} {parse : Frame → Option α} {body : Side → α → State → Answer} {s : State}
  {q : QueueEntry}

theorem issue_ok {r : α} {w : Work} {result : List Byte} (h : s.Issues q code) (hp : parse q.frame = some r)
    (hb : body q.side r { s with lastServed := q.side } = .ok (w, result)) :
    issue code parse body s = .next (w.complete q .done result) := by
  simp [issue, h.1, h.2, hp, hb, State.completeWith]

theorem start_completed (s : State) (q : QueueEntry) (status : Status) :
    (Work.start { s with lastServed := q.side } (.request q.side)).complete q status [] = s.refusedWith q status := by
  apply Work.complete_completed rfl
  cases q.side <;> simp

theorem issue_refused {r : α} {status : Status} (h : s.Issues q code) (hp : parse q.frame = some r)
    (hb : body q.side r { s with lastServed := q.side } = .error status) :
    issue code parse body s = .next (s.refusedWith q status) := by
  simp [issue, h.1, h.2, hp, hb, State.completeWith, start_completed]

/-- R147: operands that cannot be read are answered BAD-FIELD, and nothing else changes. -/
theorem issue_badField (h : s.Issues q code) (hp : parse q.frame = none) :
    issue code parse body s = .next (s.refusedWith q .badField) := by
  simp [issue, h.1, h.2, hp, State.completeWith, start_completed]

/-- A request row that is not what the arbiter issues next changes nothing. -/
theorem issue_not (h : ∀ q, ¬ s.Issues q code) : issue code parse body s = .next s := by
  unfold issue
  split
  · rfl
  · rename_i q hq
    have := h q
    simp only [State.Issues, hq, true_and] at this
    simp [this]

/-- What a request that is issued and passes its checks leaves, when its event marked nothing in the requester's list. -/
theorem issue_done {r : α} {w : Work} {result : List Byte} {t : State} {marks : List Obj} (h : s.Issues q code)
    (hp : parse q.frame = some r) (hb : body q.side r { s with lastServed := q.side } = .ok (w, result))
    (ht : w.st = { t with lastServed := q.side })
    (hm : q.side = .a ∧ w.toA = [] ∧ orderObjs w.toB = marks ∨ q.side = .b ∧ w.toB = [] ∧ orderObjs w.toA = marks) :
    issue code parse body s = .next (t.completed q .done result marks) := by
  rw [issue_ok h hp hb, Work.complete_completed ht hm]

end

/-! ## Request bytes -/

@[simp] theorem frameOfBytes_frameBytes (f : Frame) : frameOfBytes (frameBytes f) = some f := rfl

/-- Bytes that make a frame are the bytes of that frame. -/
theorem frameOfBytes_eq_some {bytes : List Byte} {f : Frame} (h : frameOfBytes bytes = some f) : bytes = frameBytes f := by
  unfold frameOfBytes at h
  split at h
  · rw [← Option.some.inj h]
    rfl
  · cases h

/-- Exactly sixteen bytes make a frame. -/
theorem frameOfBytes_isSome (bytes : List Byte) : (frameOfBytes bytes).isSome = true ↔ bytes.length = 16 := by
  constructor
  · intro h
    obtain ⟨f, hf⟩ := Option.isSome_iff_exists.mp h
    rw [frameOfBytes_eq_some hf]
    rfl
  · intro h
    unfold frameOfBytes
    split
    · rfl
    · rename_i other
      iterate 16
        rcases bytes with _ | ⟨_, bytes⟩
        · simp at h
      obtain rfl : bytes = [] := List.eq_nil_of_length_eq_zero (by simpa using h)
      exact absurd rfl (other _ _ _ _ _ _ _ _ _ _ _ _ _ _ _ _)

/-- R138: what one request byte can do. -/
theorem State.takeByte_cases (x : Side) (s : State) (byte : Byte) :
    (s.resetHeld x = true ∧ s.takeByte x byte = s) ∨
    (s.resetHeld x = false ∧ (s.link x).gathered.length + 1 ≠ 16 ∧
      s.takeByte x byte = s.setLink x { s.link x with gathered := (s.link x).gathered ++ [byte] }) ∨
    ∃ f, s.resetHeld x = false ∧ (s.link x).gathered ++ [byte] = frameBytes f ∧
      s.takeByte x byte = (s.setLink x { s.link x with gathered := [] }).arrive x f := by
  unfold State.takeByte
  cases held : s.resetHeld x with
  | true => exact .inl ⟨rfl, by simp⟩
  | false =>
    cases made : frameOfBytes ((s.link x).gathered ++ [byte]) with
    | none =>
      refine .inr (.inl ⟨rfl, fun full => ?_, by simp⟩)
      have := (frameOfBytes_isSome ((s.link x).gathered ++ [byte])).mpr (by simpa using full)
      simp [made] at this
    | some f => exact .inr (.inr ⟨f, rfl, frameOfBytes_eq_some made, by simp⟩)

/-- The bytes of a REQUEST_FRAME come one after another. -/
theorem execRequestFrame_cons (x : Side) (byte : Byte) (bytes : List Byte) (s : State) :
    execRequestFrame x (byte :: bytes) s = execRequestFrame x bytes (s.takeByte x byte) := rfl

end Sys2Proof.Machine
end

