-- ==== Sys2Proof/Laws/Records.lean ====
section
/-! SUPPORT. Which part of State the operations over calls, offers, ports and admission can change: entries, ports, calls and
contexts, and nothing else (`SameRest`). -/

namespace Sys2Proof.Machine

/-- What no change to entries, ports, calls and contexts touches. -/
structure SameRest (s t : State) : Prop where
  groups : t.groups = s.groups
  buses : t.buses = s.buses
  cadences : t.cadences = s.cadences
  highway : t.highway = s.highway
  linkA : t.linkA = s.linkA
  linkB : t.linkB = s.linkB
  queue : t.queue = s.queue
  nextSerial : t.nextSerial = s.nextSerial
  lastServed : t.lastServed = s.lastServed
  settings : t.settings = s.settings
  now : t.now = s.now
  pending : t.pending = s.pending

theorem SameRest.refl (s : State) : SameRest s s := by constructor <;> rfl

theorem SameRest.trans {a b c : State} (h : SameRest a b) (k : SameRest b c) : SameRest a c := by
  constructor
  · exact k.groups.trans h.groups
  · exact k.buses.trans h.buses
  · exact k.cadences.trans h.cadences
  · exact k.highway.trans h.highway
  · exact k.linkA.trans h.linkA
  · exact k.linkB.trans h.linkB
  · exact k.queue.trans h.queue
  · exact k.nextSerial.trans h.nextSerial
  · exact k.lastServed.trans h.lastServed
  · exact k.settings.trans h.settings
  · exact k.now.trans h.now
  · exact k.pending.trans h.pending

theorem SameRest.setEntry (s : State) (e : EntryIx) (r : Option Entry) : SameRest s (s.setEntry e r) := by
  constructor <;> rfl
theorem SameRest.setPort (s : State) (p : PortIx) (r : Port) : SameRest s (s.setPort p r) := by constructor <;> rfl
theorem SameRest.setCall (s : State) (c : CallIx) (r : Call) : SameRest s (s.setCall c r) := by constructor <;> rfl
theorem SameRest.setContext (s : State) (x : ContextIx) (r : Option ContextRec) : SameRest s (s.setContext x r) := by
  constructor <;> rfl
theorem SameRest.setContexts (s : State) (v : Vector (Option ContextRec) 192) : SameRest s (s.setContexts v) := by
  constructor <;> rfl
theorem SameRest.setCalls (s : State) (v : Vector Call 128) : SameRest s (s.setCalls v) := by constructor <;> rfl
theorem SameRest.setPorts (s : State) (v : Vector Port 256) : SameRest s (s.setPorts v) := by constructor <;> rfl

/-- An operation on an event that changes entries, ports, calls and contexts alone. -/
def Work.Rest (w v : Work) : Prop := SameRest w.st v.st ∧ v.cause = w.cause

theorem Work.Rest.refl (w : Work) : Work.Rest w w := ⟨SameRest.refl _, rfl⟩
theorem Work.Rest.trans {a b c : Work} (h : Work.Rest a b) (k : Work.Rest b c) : Work.Rest a c :=
  ⟨h.1.trans k.1, k.2.trans h.2⟩

theorem Work.onPort_rest (w : Work) (p : PortIx) (f : Port → Port) : Work.Rest w (w.onPort p f) :=
  ⟨SameRest.setPort _ _ _, rfl⟩
theorem Work.onEntry_rest (w : Work) (e : EntryIx) (f : Entry → Entry) : Work.Rest w (w.onEntry e f) :=
  ⟨SameRest.setEntry _ _ _, rfl⟩
theorem Work.onCall_rest (w : Work) (c : CallIx) (f : CallBody → CallBody) : Work.Rest w (w.onCall c f) :=
  ⟨SameRest.setCall _ _ _, rfl⟩
theorem Work.onState_rest (w : Work) (f : State → State) (h : ∀ s, SameRest s (f s)) : Work.Rest w (w.onState f) :=
  ⟨h _, rfl⟩
theorem Work.touch_rest (w : Work) (o : Obj) : Work.Rest w (w.touch o) := ⟨by simp [SameRest.refl], by simp⟩
theorem Work.touchBoth_rest (w : Work) (o : Obj) : Work.Rest w (w.touchBoth o) := Work.Rest.refl _
theorem Work.touchSide_rest (w : Work) (x : Side) (o : Obj) : Work.Rest w (w.touchSide x o) :=
  ⟨by simp [SameRest.refl], by simp⟩

theorem Work.recordFor_rest (w : Work) (x : Side) (p : PortIx) (ev : PortEvent) : Work.Rest w (w.recordFor x p ev) := by
  refine ⟨?_, by simp⟩
  rw [Work.recordFor_st]
  split
  · exact SameRest.refl _
  · exact SameRest.setPort _ _ _

theorem Work.recordEvent_rest (w : Work) (p : PortIx) (ev : PortEvent) : Work.Rest w (w.recordEvent p ev) := by
  unfold Work.recordEvent
  split
  · exact (w.recordFor_rest _ _ _).trans (Work.recordFor_rest _ _ _ _)
  · exact w.recordFor_rest _ _ _

theorem Work.foldl_rest {α : Type} (f : Work → α → Work) (h : ∀ w a, Work.Rest w (f w a)) (l : List α) (w : Work) :
    Work.Rest w (l.foldl f w) := by
  induction l generalizing w with
  | nil => exact Work.Rest.refl _
  | cons a l ih => exact (h w a).trans (ih _)

/-! ## Calls, offers and ringing -/

theorem Work.clearCallField_rest (w : Work) (c : CallIx) (e : EntryIx) : Work.Rest w (w.clearCallField c e) := by
  unfold Work.clearCallField
  split
  · exact (w.onEntry_rest _ _).trans (Work.touch_rest _ _)
  · exact Work.Rest.refl _

theorem Work.setCallField_rest (w : Work) (c : CallIx) (e : EntryIx) : Work.Rest w (w.setCallField c e) :=
  (w.onEntry_rest _ _).trans (Work.touch_rest _ _)

theorem Work.stopMember_rest (c : CallIx) (w : Work) (e : EntryIx) : Work.Rest w (Work.stopMember c w e) := by
  unfold Work.stopMember
  refine Work.Rest.trans ?_ (Work.clearCallField_rest _ _ _)
  split
  · exact (w.onPort_rest _ _).trans (Work.touch_rest _ _)
  · exact Work.Rest.refl _

theorem Work.ringMember_rest (c : CallIx) (i : CadenceIx) (w : Work) (e : EntryIx) :
    Work.Rest w (Work.ringMember c i w e) := by
  unfold Work.ringMember
  simp only
  split
  · exact (w.setCallField_rest _ _).trans ((Work.onPort_rest _ _ _).trans (Work.touch_rest _ _))
  · exact w.setCallField_rest _ _

theorem Work.freeCall_rest (w : Work) (c : CallIx) : Work.Rest w (w.freeCall c) :=
  ((Work.onState_rest w _ fun _ => SameRest.setCall _ _ _).trans
    (Work.onState_rest _ _ fun _ => SameRest.setContexts _ _)).trans (Work.touchBoth_rest _ _)

theorem Work.freePort_rest (w : Work) (p : PortIx) : Work.Rest w (w.freePort p) := by
  unfold Work.freePort
  simp only
  split
  · exact (w.onPort_rest _ _).trans (Work.touch_rest _ _)
  · exact Work.Rest.refl _

theorem Work.stopOffer_rest (w : Work) (c : CallIx) (o : Option Offer) : Work.Rest w (w.stopOffer c o) := by
  unfold Work.stopOffer
  split
  · exact Work.foldl_rest _ (Work.stopMember_rest c) _ _
  · exact Work.Rest.refl _

theorem Work.releaseCall_rest (w : Work) (c : CallIx) (why : ReleaseReason) : Work.Rest w (w.releaseCall c why) := by
  unfold Work.releaseCall
  split
  · exact Work.Rest.refl _
  · split
    · simp only
      split
      · refine Work.Rest.trans ?_ (Work.freeCall_rest _ _)
        refine Work.Rest.trans ?_ (Work.onState_rest _ _ fun _ => SameRest.setContexts _ _)
        refine Work.Rest.trans ?_ (Work.stopOffer_rest _ _ _)
        refine Work.Rest.trans ?_ (Work.foldl_rest _ (fun w e => w.clearCallField_rest c e) _ _)
        refine Work.Rest.trans ?_ (Work.foldl_rest _ Work.freePort_rest _ _)
        refine Work.Rest.trans ?_ (Work.touch_rest _ _)
        exact Work.onState_rest _ _ fun _ => SameRest.setCall _ _ _
      · refine Work.Rest.trans ?_ (Work.onState_rest _ _ fun _ => SameRest.setContexts _ _)
        refine Work.Rest.trans ?_ (Work.stopOffer_rest _ _ _)
        refine Work.Rest.trans ?_ (Work.foldl_rest _ (fun w e => w.clearCallField_rest c e) _ _)
        refine Work.Rest.trans ?_ (Work.foldl_rest _ Work.freePort_rest _ _)
        refine Work.Rest.trans ?_ (Work.touch_rest _ _)
        exact Work.onState_rest _ _ fun _ => SameRest.setCall _ _ _
    · exact Work.Rest.refl _

theorem Work.setOffer_rest (w : Work) (c : CallIx) (o : Offer) : Work.Rest w (w.setOffer c o) := w.onCall_rest _ _

theorem Work.takeStep_rest (w : Work) (c : CallIx) : Work.Rest w (w.takeStep c) := by
  unfold Work.takeStep
  split
  · exact Work.Rest.refl _
  · split
    · exact Work.Rest.refl _
    · split
      · exact ((w.setOffer_rest _ _).trans (Work.touch_rest _ _)).trans (Work.ringMember_rest _ _ _ _)
      · exact w.releaseCall_rest _ _

theorem Work.removeMember_rest (w : Work) (c : CallIx) (e : EntryIx) (why : MemberLoss) :
    Work.Rest w (w.removeMember c e why) := by
  unfold Work.removeMember
  split
  · exact Work.Rest.refl _
  · split
    · exact Work.Rest.refl _
    · split
      · simp only
        split
        · split
          · refine Work.Rest.trans ?_ (Work.releaseCall_rest _ _ _)
            refine Work.Rest.trans ?_ (Work.clearCallField_rest _ _ _)
            exact (w.setOffer_rest _ _).trans (Work.touch_rest _ _)
          · refine Work.Rest.trans ?_ (Work.takeStep_rest _ _)
            refine Work.Rest.trans ?_ (Work.clearCallField_rest _ _ _)
            exact (w.setOffer_rest _ _).trans (Work.touch_rest _ _)
        · refine Work.Rest.trans ?_ (Work.clearCallField_rest _ _ _)
          exact (w.setOffer_rest _ _).trans (Work.touch_rest _ _)
      · exact Work.Rest.refl _

/-- R93: what an operation does autonomously inside an event keeps within what the operation keeps within. -/
theorem Work.autonomously_rest (w : Work) (f : Work → Work) (h : ∀ w, Work.Rest w (f w)) : Work.Rest w (w.autonomously f) :=
  ⟨(h { w with cause := .autonomous }).1, rfl⟩

theorem Work.dropPort_rest (w : Work) (p : PortIx) (member : Option (CallIx × EntryIx)) (why : ReleaseReason) :
    Work.Rest w (w.dropPort p member why) := by
  have lost (v : Work) (c : CallIx) (e : EntryIx) :
      Work.Rest v (v.autonomously fun w => (w.touch (.port p)).removeMember c e .ineligible) :=
    v.autonomously_rest _ fun w => (w.touch_rest _).trans (Work.removeMember_rest _ _ _ _)
  unfold Work.dropPort
  simp only
  split <;> split
  · exact (w.releaseCall_rest _ _).trans (lost _ _ _)
  · exact lost _ _ _
  · exact w.releaseCall_rest _ _
  · exact Work.Rest.refl _

theorem Work.spendCycles_rest (w : Work) (p : PortIx) : Work.Rest w (w.spendCycles p) := by
  unfold Work.spendCycles
  simp only
  split
  · exact ((w.onPort_rest _ _).trans (Work.touch_rest _ _)).trans (Work.removeMember_rest _ _ _ _)
  · exact (w.onPort_rest _ _).trans (Work.touch_rest _ _)

theorem Work.clearRinging_rest (w : Work) (c : CallIx) (o : Offer) : Work.Rest w (w.clearRinging c o) :=
  ((w.setOffer_rest _ _).trans (Work.foldl_rest _ (Work.stopMember_rest c) _ _)).trans (Work.touch_rest _ _)

theorem Work.answerMismatch_rest (w : Work) (p : PortIx) (c : CallIx) (e : EntryIx) :
    Work.Rest w (w.answerMismatch p c e) :=
  (((w.onPort_rest _ _).trans (Work.touch_rest _ _)).trans (Work.removeMember_rest _ _ _ _)).trans
    ((Work.recordEvent_rest _ _ _).trans (Work.recordEvent_rest _ _ _))

theorem Work.answerFits_rest (w : Work) (p : PortIx) (c : CallIx) (e : EntryIx) (o : Offer) :
    Work.Rest w (w.answerFits p c e o) :=
  ((((w.onCall_rest _ _).trans (Work.touch_rest _ _)).trans ((Work.onPort_rest _ _ _).trans (Work.touch_rest _ _))).trans
    (Work.foldl_rest _ (Work.stopMember_rest c) _ _)).trans (Work.recordEvent_rest _ _ _)

theorem Work.answer_rest (w : Work) (p : PortIx) (identity : Nat) : Work.Rest w (w.answer p identity) := by
  unfold Work.answer
  split
  · exact Work.Rest.refl _
  · split
    · split
      · exact w.answerFits_rest _ _ _ _
      · exact w.answerMismatch_rest _ _ _
    · exact Work.Rest.refl _

/-! ## Admission -/

theorem Work.unbindEntry_rest (w : Work) (f : EntryIx) : Work.Rest w (w.unbindEntry f) :=
  (w.onEntry_rest _ _).trans (Work.touch_rest _ _)

theorem Work.displace_rest (w : Work) (p : PortIx) (e : EntryIx) : Work.Rest w (w.displace p e) := by
  unfold Work.displace
  split
  · split
    · exact Work.Rest.refl _
    · exact w.unbindEntry_rest _
  · exact Work.Rest.refl _

theorem Work.roamFrom_rest (w : Work) (p : PortIx) (e : EntryIx) : Work.Rest w (w.roamFrom p e) := by
  unfold Work.roamFrom
  split
  · split
    · exact Work.Rest.refl _
    · exact (w.onPort_rest _ _).trans (Work.touch_rest _ _)
  · exact Work.Rest.refl _

theorem Work.bindTo_rest (w : Work) (p : PortIx) (e : EntryIx) : Work.Rest w (w.bindTo p e) :=
  ((w.onPort_rest _ _).trans (Work.onEntry_rest _ _ _)).trans (Work.touch_rest _ _)

theorem Work.originate_rest (w : Work) (p : PortIx) : Work.Rest w (w.originate p) := w.onPort_rest _ _

theorem Work.takeDecision_rest (w : Work) (p : PortIx) (d : Decision) : Work.Rest w (w.takeDecision p d) := by
  cases d
  · exact (((w.displace_rest _ _).trans (Work.roamFrom_rest _ _ _)).trans (Work.bindTo_rest _ _ _)).trans
      (Work.originate_rest _ _)
  · exact w.originate_rest _
  · exact w.onPort_rest _ _

theorem Work.recordAdmission_rest (w : Work) (p : PortIx) (d : Decision) : Work.Rest w (w.recordAdmission p d) := by
  cases d
  · exact w.recordEvent_rest _ _
  · exact w.recordEvent_rest _ _
  · exact (w.recordEvent_rest _ _).trans (Work.recordEvent_rest _ _ _)

theorem Work.hookOff_rest (w : Work) (p : PortIx) : Work.Rest w (w.hookOff p) :=
  (w.onPort_rest _ _).trans (Work.touch_rest _ _)

theorem Work.acceptOffHook_rest (w : Work) (p : PortIx) (identity : Nat) : Work.Rest w (w.acceptOffHook p identity) := by
  unfold Work.acceptOffHook
  simp only
  split
  · split
    · exact ((w.hookOff_rest _).trans (Work.takeDecision_rest _ _ _)).trans (Work.recordAdmission_rest _ _ _)
    · exact w.answer_rest _ _
    · exact (w.hookOff_rest _).trans (Work.recordEvent_rest _ _ _)
  · exact Work.Rest.refl _

/-! ## Supervision and module loss -/

theorem Work.enterFault_rest (w : Work) (p : PortIx) : Work.Rest w (w.enterFault p) :=
  ((w.onPort_rest _ _).trans (Work.dropPort_rest _ _ _ _)).trans
    (((Work.onPort_rest _ _ _).trans (Work.touch_rest _ _)).trans (Work.recordEvent_rest _ _ _))

theorem Work.hangUp_rest (w : Work) (p : PortIx) : Work.Rest w (w.hangUp p) := by
  unfold Work.hangUp
  split
  · exact Work.Rest.refl _
  · exact w.releaseCall_rest _ _

theorem Work.acceptOnHook_rest (w : Work) (p : PortIx) : Work.Rest w (w.acceptOnHook p) := by
  unfold Work.acceptOnHook
  simp only
  refine Work.Rest.trans ?_ (Work.recordEvent_rest _ _ _)
  split
  · refine Work.Rest.trans ?_ (Work.onPort_rest _ _ _)
    exact (w.onPort_rest _ _).trans (Work.touch_rest _ _)
  · refine Work.Rest.trans ?_ (Work.onPort_rest _ _ _)
    exact (w.onPort_rest _ _).trans (Work.touch_rest _ _)
  · refine Work.Rest.trans ?_ (Work.hangUp_rest _ _)
    exact (w.onPort_rest _ _).trans (Work.touch_rest _ _)
  · exact (w.onPort_rest _ _).trans (Work.touch_rest _ _)
  · exact (w.onPort_rest _ _).trans (Work.touch_rest _ _)

theorem Work.judgeHook_rest (w : Work) (p : PortIx) : Work.Rest w (w.judgeHook p).1 := by
  unfold Work.judgeHook
  simp only
  split
  · split
    · exact (w.onPort_rest _ _).trans (Work.acceptOnHook_rest _ _)
    · exact w.onPort_rest _ _
  · exact w.onPort_rest _ _

theorem Work.judgeLeakage_rest (w : Work) (p : PortIx) : Work.Rest w (w.judgeLeakage p) := by
  unfold Work.judgeLeakage
  simp only
  split
  · split
    · exact (w.onPort_rest _ _).trans (Work.touch_rest _ _)
    · exact w.onPort_rest _ _
  · split
    · split
      · exact ((w.onPort_rest _ _).trans (Work.onPort_rest _ _ _)).trans
          ((Work.recordEvent_rest _ _ _).trans (Work.touch_rest _ _))
      · exact w.onPort_rest _ _
    · exact w.onPort_rest _ _

theorem Work.judgeActive_rest (w : Work) (p : PortIx) : Work.Rest w (w.judgeActive p).1 := by
  unfold Work.judgeActive
  dsimp only
  generalize (if w.st.settings.oct ≤ (w.st.port p).loopValue then (w.st.port p).overRun + 1 else 0) = run
  split
  · refine Work.Rest.trans ?_ (Work.enterFault_rest _ _)
    exact Work.onPort_rest _ _ _
  · refine Work.Rest.trans ?_ (Work.judgeLeakage_rest _ _)
    refine Work.Rest.trans ?_ (Work.judgeHook_rest _ _)
    exact Work.onPort_rest _ _ _

theorem Work.measure_rest (w : Work) (p : PortIx) : Work.Rest w (w.measure p) := by
  unfold Work.measure
  simp only
  split
  · exact (w.onPort_rest _ _).trans (Work.touch_rest _ _)
  · exact w.onPort_rest _ _

/-- R61: the judgement of a reading changes entries, ports, calls and contexts alone. -/
theorem Work.judge_rest (w : Work) (p : PortIx) (reading : Nat) : Work.Rest w (w.judge p reading).1 := by
  unfold Work.judge
  simp only
  split
  · exact (w.onPort_rest _ _).trans (Work.judgeActive_rest _ _)
  · split
    · exact (w.onPort_rest _ _).trans (Work.measure_rest _ _)
    · exact w.onPort_rest _ _
  · exact w.onPort_rest _ _
  · split
    · exact (w.onPort_rest _ _).trans ((Work.onPort_rest _ _ _).trans (Work.touch_rest _ _))
    · exact w.onPort_rest _ _
  · exact w.onPort_rest _ _
  · exact w.onPort_rest _ _

theorem Work.losePort_rest (w : Work) (p : PortIx) : Work.Rest w (w.losePort p) := by
  unfold Work.losePort
  simp only
  split
  · exact Work.Rest.refl _
  · refine Work.Rest.trans ?_ (Work.recordEvent_rest _ _ _)
    refine Work.Rest.trans ?_ (Work.touch_rest _ _)
    refine Work.Rest.trans ?_ (Work.onPort_rest _ _ _)
    refine Work.Rest.trans ?_ (Work.dropPort_rest _ _ _ _)
    split
    · refine Work.Rest.trans ?_ (Work.unbindEntry_rest _ _)
      exact Work.onPort_rest _ _ _
    · exact Work.onPort_rest _ _ _

theorem Work.loseModule_rest (w : Work) (k : BusIx) (m : ModuleIx) : Work.Rest w (w.loseModule k m) :=
  Work.foldl_rest _ (fun w _ => w.losePort_rest _) _ _

end Sys2Proof.Machine
end

