-- ==== Sys2Proof/Laws/Tables.lean ====
section
/-! SUPPORT. What the operations over tables answer. -/

namespace Sys2Proof.Machine

theorem indexed_eq {α : Type} {n : Nat} (v : Vector α n) : indexed v = (List.finRange n).map fun i => (i, v[i]) := by
  apply List.ext_getElem <;> simp [indexed]

theorem mem_indexed {α : Type} {n : Nat} (v : Vector α n) (i : Fin n) (a : α) : (i, a) ∈ indexed v ↔ v[i] = a := by
  simp [indexed_eq]

@[simp] theorem mapIx_getElem {α β : Type} {n : Nat} (f : Fin n → α → β) (v : Vector α n) (i : Nat) (h : i < n) :
    (mapIx f v)[i] = f ⟨i, h⟩ v[i] := by
  simp [mapIx, indexed_eq]

@[simp] theorem tabulate_getElem {α : Type} {n : Nat} (f : Fin n → α) (i : Nat) (h : i < n) :
    (tabulate f)[i] = f ⟨i, h⟩ := by
  simp [tabulate]

theorem mem_allIx {α : Type} {n : Nat} (P : Fin n → α → Bool) (v : Vector α n) (i : Fin n) :
    i ∈ allIx P v ↔ P i v[i] = true := by
  simp [allIx, indexed_eq]

theorem firstIx_eq_none {α : Type} {n : Nat} (P : Fin n → α → Bool) (v : Vector α n) :
    firstIx P v = none ↔ ∀ i : Fin n, P i v[i] = false := by
  simp [firstIx, indexed_eq]

/-- The first member that meets `P` meets it. -/
theorem firstIx_meets {α : Type} {n : Nat} (P : Fin n → α → Bool) (v : Vector α n) (i : Fin n)
    (h : firstIx P v = some i) : P i v[i] = true := by
  unfold firstIx at h
  rw [Option.map_eq_some_iff] at h
  obtain ⟨x, hx, rfl⟩ := h
  have hm := List.mem_of_find?_eq_some hx
  have hp := List.find?_some hx
  obtain ⟨j, a⟩ := x
  rw [mem_indexed] at hm
  subst hm
  exact hp

/-- No member before the first that meets `P` meets it. -/
theorem firstIx_least {α : Type} {n : Nat} (P : Fin n → α → Bool) (v : Vector α n) (i : Fin n)
    (h : firstIx P v = some i) (j : Fin n) (hj : j < i) : P j v[j] = false := by
  unfold firstIx at h
  rw [Option.map_eq_some_iff] at h
  obtain ⟨x, hx, rfl⟩ := h
  rw [indexed_eq, List.find?_eq_some_iff_getElem] at hx
  obtain ⟨_, k, hk, he, hlt⟩ := hx
  simp only [List.length_map, List.length_finRange] at hk
  simp only [List.getElem_map, List.getElem_finRange] at he
  subst he
  have := hlt j.val (by rw [Fin.lt_def] at hj; simpa using hj)
  simpa using this

/-- A member that meets `P` gives a first one. -/
theorem firstIx_isSome {α : Type} {n : Nat} (P : Fin n → α → Bool) (v : Vector α n) :
    (firstIx P v).isSome = true ↔ ∃ i : Fin n, P i v[i] = true := by
  rw [Option.isSome_iff_ne_none, ne_eq, firstIx_eq_none]
  simp

end Sys2Proof.Machine
end

