-- ==== Sys2Proof/Tests/Slice0.lean ====
section
/-! SUPPORT. Tests: ill-formed operands refused, request frames written out byte by byte from the layouts of chapter 12, one step of
every command on a small state with the expected value taken from its rule, and for every statement a state that meets its premises. -/

namespace Sys2Proof.Tests

set_option Elab.async false

open Sys2Proof.Machine

/-! ## Small states -/

/-- The state a command leaves; a command that answers no next state leaves it as it was. -/
def ran (c : Instr) (s : State) : State :=
  match exec c s with
  | .next t => t
  | _ => s

/-- An entry of side A with identity and number `n`, every call class and scramble class ALLOWED. -/
def handset (n : Nat) (status : EntryStatus) : Entry := ⟨status, n, n, ⟨true, true, true, .allowed⟩, .a, none, none, []⟩

/-- An ACTIVE port with feed on whose drive and gain code have been written. -/
def inService (b : Option EntryIx) : Port :=
  { Port.reset with service := .active, binding := b, drive := ⟨true, false⟩, lastDrive := some ⟨true, false⟩, lastGain := some 32 }

/-- Module 0 of bus 0 in service; entry 0 ENTERED, entries 1 to 3 BOUND to ports 1 to 3; entry e has identity and number e + 1. -/
def small : State :=
  { State.reset with
    entries := tabulate fun e =>
      if e = 0 then some (handset 1 .entered)
      else if h : e.val < 4 then some (handset (e.val + 1) (.bound ⟨e.val, by omega⟩)) else none
    ports := tabulate fun p =>
      if p = 0 then inService none else if h : p.val < 4 then inService (some ⟨p.val, by omega⟩) else .reset
    buses := State.reset.buses.set 0 { Bus.reset with
      sweepNumber := 1, modules := Bus.reset.modules.set 0 ⟨true, 0⟩ } }

/-- `s` with a change of one port. -/
def withPort (p : PortIx) (f : Port → Port) (s : State) : State := s.setPort p (f (s.port p))

/-- `s` with a change of one entry. -/
def withEntry (e : EntryIx) (f : Entry → Entry) (s : State) : State := s.setEntry e ((s.entry e).map f)

/-- `s` with a change of bus 0. -/
def withBus (f : Bus → Bus) (s : State) : State := s.setBus 0 (f (s.bus 0))

/-- A leg of an INTERNAL call, its path PENDING and without contexts. -/
def legAt (p : Option PortIx) (e : EntryIx) (send recv : SlotIx) : Leg := ⟨p, some e, send, recv, .pending, 0⟩

/-- Call 0, generation 1, of entry 1 on port 1 with entry 2, in a phase. -/
def callOf (phase : CallPhase) (called : Option PortIx) : Call :=
  ⟨1, none, some ⟨phase, .a, .internal, 0, 0, .off, false, some (legAt (some 1) 1 12 13), some (legAt called 2 10 11)⟩⟩

/-- Entries 1 and 2 CONNECTED in call 0, both ports TALKING with the hook OFF. -/
def talking : State :=
  (((((small.setCall 0 (callOf .connected (some 2))).setEntry 1 ((small.entry 1).map fun r => { r with call := some 0 })).setEntry 2
    ((small.entry 2).map fun r => { r with call := some 0 })).setPort 1
      { inService (some 1) with hook := .off, activity := .talking, gainIndex := some 3 }).setPort 2
      { inService (some 2) with hook := .off, activity := .talking, gainIndex := some 3 })

/-- The offer of call 0 in `ringing`. -/
def directed : Offer := ⟨.entry 2, .all, [2], [], 0, 0, 30000, none⟩

/-- Entry 1 offers a call to entry 2, which rings. -/
def ringing : State :=
  ((talking.setCall 0 (callOf (.offered directed) none)).setPort 2
    { inService (some 2) with activity := .ringing, ring := some ⟨0, true, 255, 1000⟩, drive := ⟨true, true⟩ })

/-- `s` with line 1 of module 0 on bus 0 in a visit step. -/
def visiting (step : VisitStep) (s : State) : State := withBus (fun b => { b with sweep := .visit 0 1 step }) s

/-- A request as the queue holds it. -/
def asked (x : Side) (f : Frame) : QueueEntry := ⟨0, x, f, keySet f, [], false⟩

/-- `s` with one request waiting in an otherwise empty queue. -/
def ask (x : Side) (f : Frame) (s : State) : State := { s with queue := [asked x f], nextSerial := 1 }

/-- A request that waits alone is the arbiter's choice, a LINE ACCESS when the direct slot of its bus is empty. -/
theorem ask_issues (x : Side) (f : Frame) (s : State)
    (free : ∀ k, lineAccessBus f = some k → (s.bus k).direct = none := by decide +kernel) :
    (ask x f s).Issues (asked x f) f.code := by
  have ready : (ask x f s).issuable (asked x f) = true := by
    cases h : lineAccessBus f with
    | none => simp [State.issuable, QueueEntry.state, asked, h]
    | some k =>
      have slot : ((ask x f s).bus k).direct = none := free k h
      simp [State.issuable, QueueEntry.state, asked, h, slot]
  have alone (y : Side) : (ask x f s).candidate y = if x = y then some (asked x f) else none := by
    cases x <;> cases y <;> simp_all [State.candidate, ask] <;> simp_all [asked]
  refine ⟨?_, rfl⟩
  unfold State.arbiterChoice
  rw [alone, alone]
  cases x <;> cases (ask _ f s).lastServed <;> simp [Side.other]

/-- What a request does that waits alone. -/
def did (c : Instr) (f : Frame) (s : State) : State := ran c (ask .a f s)

/-- The RESPONSE at the head of a side's list. -/
def answer (x : Side) (s : State) : Option (Status × List Byte) :=
  (s.link x).report.head?.bind fun i => match i with
    | .response r => some (r.status, r.result)
    | .obj _ => none

/-- Samples that are all the same. -/
def flat (v : Byte) : Samples := Vector.replicate 256 v

/-! ## Ill-formed operands are refused -/

/-- An ENTER that is well-formed at the ends of its ranges. -/
def widestEnter : EnterArgs := ⟨511, 16777215, 9999, ⟨true, true, true, .always⟩, some 255, [0, 1, 2, 31]⟩

theorem test_wf_enter : widestEnter.wf = true := by decide
theorem test_wf_identity_zero : { widestEnter with identity := 0 }.wf = false := by decide
theorem test_wf_identity_large : { widestEnter with identity := 16777216 }.wf = false := by decide
theorem test_wf_number : { widestEnter with number := 10000 }.wf = false := by decide
theorem test_wf_five_groups : { widestEnter with groups := [0, 1, 2, 3, 4] }.wf = false := by decide
theorem test_wf_group_twice : { widestEnter with groups := [5, 5] }.wf = false := by decide
theorem test_wf_amend : (AmendArgs.mk 0 none .keep (some 10000)).wf = false := by decide
theorem test_wf_lookup_number : (LookupKey.number 10000).wf = false := by decide
theorem test_wf_lookup_identity : (LookupKey.identity 16777216).wf = false := by decide
theorem test_wf_set_group : (SetGroupArgs.mk 0 (.replace [0, 1, 2, 3, 4])).wf = false := by decide
theorem test_wf_append : (SetGroupArgs.mk 0 (.append [0, 1, 2, 3, 4])).wf = false := by decide
theorem test_wf_drop : (SetGroupArgs.mk 0 (.drop [0, 1, 2, 3, 4])).wf = false := by decide
theorem test_wf_gain_table : (GainTableArgs.mk true [0, 1, 2, 3, 4, 5, 6]).wf = false := by decide

/-! ## Request frames, byte by byte (R161) -/

/-- ENTER: entry 5, identity 00 01 02, number 04 D2, class 78, home port 9, groups 3 and 31. -/
def enterFrame : Frame := ⟨7, 1, 10, 0, 5, 0, 1, 2, 4, 0xD2, 0x78, 9, 3, 31, 0, 0⟩
/-- AMEND: class 08 (DIRECTED, NEVER) and number 1E 61 of entry 1. -/
def amendFrame : Frame := ⟨7, 2, 9, 0, 1, 8, 0, 0x1E, 0x61, 0, 0, 0, 0, 0, 0, 0⟩
/-- A request with code `c` that names entry 1. -/
def entryFrame (c : Byte) : Frame := ⟨7, c, 0, 0, 1, 0, 0, 0, 0, 0, 0, 0, 0, 0, 0, 0⟩
/-- LOOKUP of identity 00 00 02. -/
def lookupFrame : Frame := ⟨7, 6, 1, 0, 0, 2, 0, 0, 0, 0, 0, 0, 0, 0, 0, 0⟩
/-- SET GROUP SETTINGS: group 3, SEQUENTIAL, cadence 1, step time 61. -/
def settingsFrame : Frame := ⟨7, 9, 0, 3, 1, 1, 61, 0, 0, 0, 0, 0, 0, 0, 0, 0⟩
/-- SET GROUP in form `form` (1 REPLACE, 2 APPEND, 3 DROP): group 3, entries 1 and 2. -/
def membersFrame (form : Byte) : Frame := ⟨7, 9, form + 8, 3, 0, 0, 0, 0, 1, 0, 2, 0, 0, 0, 0, 0⟩
/-- READ GROUP: group 3, part 0. -/
def readGroupFrame : Frame := ⟨7, 10, 0, 3, 0, 0, 0, 0, 0, 0, 0, 0, 0, 0, 0, 0⟩
/-- OFFER: PREFERRED, cadence override 1, expiry 4; calling entry 1 and target entry 2 in the 24-bit field 00 80 90; called slots 10
and 11, calling slots 12 and 13, seed 00 AB CD, anchor 12 34. -/
def offerFrame : Frame := ⟨7, 16, 104, 0x00, 0x80, 0x90, 10, 11, 12, 13, 0, 0xAB, 0xCD, 0x12, 0x34, 4⟩
/-- CONNECT TRUNK: role CALLED, anchor auto, OFF; entry 1, slots 20 and 21. -/
def trunkFrame : Frame := ⟨7, 17, 3, 0, 1, 20, 21, 0, 0, 0, 0, 0, 0, 0, 0, 0⟩
/-- A request with code `c` and flags `fl` that names call 0, generation 1, with byte 5 given. -/
def callFrame (c fl b5 : Byte) : Frame := ⟨7, c, fl, 0, 1, b5, 0, 0, 0, 0, 0, 0, 0, 0, 0, 0⟩
/-- LINE ACCESS: WRITE of 5 to item 3 (the gain of line 0) of module 0 of bus 0. -/
def lineFrame : Frame := ⟨7, 32, 1, 0, 0, 3, 0, 5, 0, 0, 0, 0, 0, 0, 0, 0⟩
/-- A request with code `c` that names port 1. -/
def portFrame (c : Byte) : Frame := ⟨7, c, 0, 1, 0, 0, 0, 0, 0, 0, 0, 0, 0, 0, 0, 0⟩
/-- SET CADENCE: entry 2, on 03 FF, off 00 01, cycles 0. -/
def cadenceFrame : Frame := ⟨7, 48, 0, 2, 3, 0xFF, 0, 1, 0, 0, 0, 0, 0, 0, 0, 0⟩
/-- SET SUPERVISION: OFFT 0, ONT 500, RTT 0, OCT 0, LEAKT 65,535, debounce 9. -/
def supervisionFrame : Frame := ⟨7, 49, 0, 0, 0, 1, 0xF4, 0, 0, 0, 0, 0xFF, 0xFF, 9, 0, 0⟩
/-- SET FAULT MODE: LATCHED, interval 1. -/
def faultModeFrame : Frame := ⟨7, 50, 0, 1, 0, 1, 0, 0, 0, 0, 0, 0, 0, 0, 0, 0⟩
/-- SET GAIN: base 65,535, step 0. -/
def gainFrame : Frame := ⟨7, 51, 0, 0xFF, 0xFF, 0, 0, 0, 0, 0, 0, 0, 0, 0, 0, 0⟩
/-- SET GAIN TABLE: upper half, codes 1 to 7 and 200. -/
def gainTableFrame : Frame := ⟨7, 52, 0, 1, 1, 2, 3, 4, 5, 6, 7, 200, 0, 0, 0, 0⟩
/-- A request with code `c` and a one-byte value. -/
def valueFrame (c v : Byte) : Frame := ⟨7, c, 0, v, 0, 0, 0, 0, 0, 0, 0, 0, 0, 0, 0, 0⟩

theorem test_parse_enter : parseEnter enterFrame = some ⟨5, 258, 1234, ⟨true, true, true, .allowed⟩, some 9, [3, 31]⟩ := by
  decide +kernel
theorem test_parse_amend : parseAmend amendFrame = some ⟨1, some ⟨true, false, false, .never⟩, .keep, some 7777⟩ := by
  decide +kernel
/-- An undefined bit of the class byte, whether the flags mark the classes or not. -/
theorem test_parse_amend_class_bit : parseAmend { amendFrame with b5 := 9 } = none ∧
    parseAmend { amendFrame with flags := 8, b5 := 1 } = none := by decide +kernel
theorem test_parse_entry : parseEntry (entryFrame 3) = some 1 := by decide +kernel
theorem test_parse_lookup : parseLookup lookupFrame = some (.identity 2) := by decide +kernel
theorem test_parse_settings : parseSetGroup settingsFrame = some ⟨3, .settings .sequential 1 61 []⟩ := by decide +kernel
theorem test_parse_append : parseSetGroup (membersFrame 2) = some ⟨3, .append [1, 2]⟩ := by decide +kernel
theorem test_parse_read_group : parseReadGroup readGroupFrame = some ⟨3, 0⟩ := by decide +kernel
theorem test_parse_offer : parseOffer offerFrame =
    some ⟨some ⟨1, 12, 13⟩, .entry 2, 10, 11, 0xABCD, some 0x1234, .preferred, some 1, some 4⟩ := by decide +kernel
theorem test_parse_trunk : parseTrunk trunkFrame = some ⟨1, .called, 20, 21, 0, none, .off⟩ := by decide +kernel
theorem test_parse_confirm : parseConfirm (callFrame 18 0 0) = some ⟨0, 1⟩ := by decide +kernel
theorem test_parse_scramble : parseScramble (callFrame 19 2 0) = some ⟨⟨0, 1⟩, .required⟩ := by decide +kernel
theorem test_parse_release : parseRelease (callFrame 20 0 1) = some ⟨⟨0, 1⟩, true⟩ := by decide +kernel
theorem test_parse_read_call : parseReadCall (callFrame 21 0 0) = some ⟨0, 1⟩ := by decide +kernel
theorem test_parse_line : parseLine lineFrame = some ⟨0, 0, 3, some 5⟩ := by decide +kernel
theorem test_parse_port : parsePort (portFrame 33) = some 1 := by decide +kernel
theorem test_parse_cadence : parseCadence cadenceFrame = some ⟨2, 1023, 1, 0⟩ := by decide +kernel
theorem test_parse_supervision : parseSupervision supervisionFrame = some ⟨0, 500, 0, 0, 65535, 9⟩ := by decide +kernel
theorem test_parse_fault_mode : parseFaultMode faultModeFrame = some ⟨.latched, 1⟩ := by decide +kernel
theorem test_parse_gain : parseGain gainFrame = some ⟨65535, 0⟩ := by decide +kernel
theorem test_parse_gain_table : parseGainTable gainTableFrame = some ⟨true, [1, 2, 3, 4, 5, 6, 7, 200]⟩ := by decide +kernel
theorem test_parse_value : parseValue (valueFrame 53 1) = some 1 := by decide +kernel
theorem test_parse_none : parseNone (valueFrame 64 0) = some () := by decide +kernel
theorem test_parse_undefined_byte : parseNone (valueFrame 64 1) = none := by decide +kernel
theorem test_parse_undefined_flag : parseEntry { entryFrame 3 with flags := 128 } = none := by decide +kernel

/-! ## One step of every command -/

/-- READY of a side whose LINK RESET is held is down, and the queue is empty. -/
theorem test_power_on_reset :
    (ran (.powerOnReset false true) talking).ready .a = true ∧ (ran (.powerOnReset false true) talking).ready .b = false := by
  decide +kernel
/-- The bytes of an ENTER and three bytes more, with R142's keys for entry 5 and groups 3 and 31. -/
theorem test_request_frame : (ran (.requestFrame .b (frameBytes enterFrame ++ [1, 2, 3])) small).queue =
    [⟨0, .b, enterFrame, [.entry 5, .group 3, .group 31, .directory], [], false⟩] ∧
    ((ran (.requestFrame .b (frameBytes enterFrame ++ [1, 2, 3])) small).link .b).byteCount = 3 := by decide +kernel
/-- A frame cut short by LINK RESET is lost whole, bytes under LINK RESET are ignored, and the first byte after it is byte 0 (R138). -/
theorem test_request_frame_cut : let cut := ran (.requestFrame .a [9, 9, 9]) small
    let s := ran (.linkResetRelease .a) (ran (.requestFrame .a [9, 9]) (ran (.linkResetAssert .a) cut))
    (cut.link .a).gathered = [9, 9, 9] ∧ (s.link .a).gathered = [] ∧
      (ran (.requestFrame .a (frameBytes enterFrame)) s).queue.map (·.frame) = [enterFrame] := by decide +kernel
/-- Keys written out from R142's table: SET GROUP of group 3 with entries 1 and 2, OFFER from entry 1 to entry 2, a count of 5. -/
theorem test_key_sets : keySet (membersFrame 1) = [.group 3, .entry 1, .entry 2] ∧ keySet offerFrame = [.entry 1, .entry 2] ∧
    keySet { enterFrame with flags := 13 } = [.entry 5, .directory] ∧ keySet lineFrame = [.bus 0] ∧
    keySet (portFrame 35) = [.port 1] ∧ keySet (valueFrame 99 0) = [] := by decide +kernel

theorem test_enter : (did .enter enterFrame small).entry 5 =
    some ⟨.entered, 258, 1234, ⟨true, true, true, .allowed⟩, .a, some 9, none, [3, 31]⟩ := by decide +kernel
theorem test_enter_joins_group : ((did .enter enterFrame small).group 31).members = [5] := by decide +kernel
theorem test_amend : ((did .amend amendFrame small).entry 1).map (fun r => (r.number, r.classes.scramble, r.identity)) =
    some (7777, .never, 2) := by decide +kernel
theorem test_bar : (((did .bar (entryFrame 3) small).entry 1).map (·.status), ((did .bar (entryFrame 3) small).port 1).binding) =
    (some .barred, none) := by decide +kernel
theorem test_bar_in_call : answer .a (did .bar (entryFrame 3) talking) = some (.inUse, []) := by decide +kernel
theorem test_unbar : ((did .unbar (entryFrame 4) (withEntry 1 (fun r => { r with status := .barred }) small)).entry 1).map (·.status) =
    some .entered := by decide +kernel
theorem test_unbar_bound : answer .a (did .unbar (entryFrame 4) small) = some (.state, []) := by decide +kernel
theorem test_remove : (did .remove (entryFrame 5) small).entry 1 = none := by decide +kernel
/-- The entry's two bytes and the state code of BOUND. -/
theorem test_lookup : answer .a (did .lookup lookupFrame small) = some (.done, [0, 1, 2]) := by decide +kernel
/-- BOUND (2), every call class (8 + 16 + 32) and ALLOWED (64); identity, number, bound port present, port 1. -/
theorem test_read_entry : answer .a (did .readEntry (entryFrame 7) small) =
    some (.done, [122, 0, 0, 2, 0, 2, 2, 0, 1, 0, 0, 0, 0]) := by decide +kernel
theorem test_takeover_entry : ((ran .takeoverEntry (ask .b (entryFrame 8) small)).entry 1).map (·.handler) = some .b := by
  decide +kernel
/-- The settings are written; with entry 1 given twice they are not. -/
theorem test_set_group : ((did .setGroup settingsFrame small).group 3) = ⟨[], .sequential, 1, 60⟩ ∧
    answer .a (did .setGroup { settingsFrame with flags := 8, b8 := 1, b10 := 1 } small) = some (.duplicate, []) := by decide +kernel
theorem test_set_group_append : ((did .setGroup (membersFrame 2) small).entry 2).map (·.groups) = some [3] := by decide +kernel
theorem test_read_group : answer .a (did .readGroup readGroupFrame (small.setGroup 3 ⟨[1, 258], .sequential, 1, 60⟩)) =
    some (.done, [2, 3, 60, 0, 1, 1, 2, 0, 0, 0, 0]) := by decide +kernel

/-- The caller of an OFFER, ORIGINATING. -/
def calling : State := withPort 1 (fun r => { r with hook := .off, activity := .originating }) small

theorem test_offer : answer .a (did .offer offerFrame calling) = some (.done, [0, 1, 1]) := by decide +kernel
theorem test_offer_rings : ((did .offer offerFrame calling).port 2).ring = some ⟨1, true, 255, 500⟩ := by decide +kernel
theorem test_connect_trunk : ((did .connectTrunk trunkFrame small).call 0).body.map (fun b => (b.phase, b.kind)) =
    some (.provisional, .trunk) := by decide +kernel
theorem test_confirm : ((did .confirm (callFrame 18 0 0) (small.setCall 0 (callOf .provisional (some 2)))).call 0).body.map (·.phase) =
    some .connected := by decide +kernel
theorem test_scramble : answer .a (did .scramble (callFrame 19 2 0) talking) = some (.done, [0, 1, 2]) := by decide +kernel
theorem test_scramble_contexts : (did .scramble (callFrame 19 2 0) talking).freeContexts.length = 188 := by decide +kernel
theorem test_release : ((did .release (callFrame 20 0 1) talking).call 0) = ⟨1, some .highway, none⟩ := by decide +kernel
theorem test_release_generation : answer .a (did .release { callFrame 20 0 1 with b4 := 2 } talking) = some (.noCall, []) := by
  decide +kernel
/-- CONNECTED, generation 1; CALLING leg PENDING with port 1 and entry 1; slots 12 and 13; no contexts. -/
theorem test_read_call : answer .a (did .readCall (callFrame 21 0 0) talking) =
    some (.done, [3, 1, 24, 1, 0, 1, 12, 13, 0]) := by decide +kernel

theorem test_line_access : ((did .lineAccess lineFrame small).bus 0).direct = some ⟨some 0, 0, 3, some 5, false⟩ := by decide +kernel

/-- A LINE ACCESS in the direct slot of bus 0. -/
def slotTaken : State := did .lineAccess lineFrame small

/-- Its transaction in progress. -/
def direct : State := ran (.directTransactionStart 0) slotTaken

theorem test_direct_transaction_start : (direct.bus 0).directRuns = true := by decide +kernel
theorem test_line_access_done : answer .a (ran (.lineAccessDone 0 0) direct) = some (.done, []) := by decide +kernel
theorem test_line_access_rewrite : ((ran (.lineAccessDone 0 0) direct).port 0).rewrite = true := by decide +kernel
theorem test_line_access_no_reply : answer .a (ran (.transactionNoReply 0 false) direct) = some (.noReply, []) := by decide +kernel
theorem test_hold_port : ((did .holdPort (portFrame 33) small).port 1).held = true := by decide +kernel
theorem test_release_hold : ((did .releaseHold (portFrame 34) small).port 1).rewrite = true := by decide +kernel
theorem test_block_port : ((did .blockPort (portFrame 35) talking).port 1).service = .blocked false ∧
    ((did .blockPort (portFrame 35) talking).call 0).lastReason = some .portLost := by decide +kernel
/-- The loss of a ringing member marks its port in the requester's own list too (R93). -/
theorem test_block_port_ringing : .obj (.port 2) ∈ ((did .blockPort { portFrame 35 with b3 := 2 } ringing).link .a).report ∧
    .obj (.port 2) ∈ ((did .blockPort { portFrame 35 with b3 := 2 } ringing).link .b).report := by decide +kernel
theorem test_unblock_port :
    ((did .unblockPort (portFrame 36) (withPort 1 (fun r => { r with service := .blocked false }) small)).port 1).service =
      .blocked true := by decide +kernel
theorem test_clear_fault :
    ((did .clearFault (portFrame 37) (withPort 1 (fun r => { r with service := .fault (.waiting none) }) small)).port 1).service =
      .fault .measuring := by decide +kernel

theorem test_set_cadence : (did .setCadence cadenceFrame small).cadence 2 = ⟨1000, 50, 1⟩ := by decide +kernel
theorem test_set_supervision :
    answer .a (did .setSupervision supervisionFrame small) = some (.done, [0, 1, 0, 0, 0, 1, 0, 2, 127, 248, 8]) := by
  decide +kernel
theorem test_set_fault_mode : answer .a (did .setFaultMode faultModeFrame small) = some (.done, [1, 0, 100]) := by decide +kernel
theorem test_set_gain : answer .a (did .setGain gainFrame small) = some (.done, [127, 248, 0, 1]) := by decide +kernel
theorem test_set_gain_table : (did .setGainTable gainTableFrame small).settings.gainTable =
    #v[32, 32, 32, 32, 32, 32, 32, 32, 1, 2, 3, 4, 5, 6, 7, 63] := by decide +kernel
theorem test_set_sweep_period : answer .a (did .setSweepPeriod (valueFrame 53 1) small) = some (.done, [2]) := by decide +kernel
theorem test_set_quiet_code : (did .setQuietCode (valueFrame 54 0x55) small).settings.quietCode = 0x55 := by decide +kernel
theorem test_set_offer_defaults : answer .a (did .setOfferDefaults (valueFrame 55 1) small) = some (.done, [5]) := by
  decide +kernel
theorem test_takeover_side : answer .b (ran .takeoverSide (ask .b (valueFrame 64 0) talking)) = some (.done, [0, 4, 1]) := by
  decide +kernel
theorem test_refresh : (did .refresh (valueFrame 65 0) talking).linkB.report = [] := by decide +kernel
theorem test_unknown_request : answer .a (did .unknownRequest (valueFrame 99 0) small) = some (.badField, []) := by decide +kernel

theorem test_sweep_start : ((ran (.sweepStart 0) small).bus 0).sweep = .visit 0 0 .loop := by decide +kernel
/-- A fine reading of 3,840 is heard and the next one is COARSE. -/
theorem test_loop_reading :
    (((ran (.loopReading 0 3840) (visiting .loop small)).port 1).loopValue, ((ran (.loopReading 0 3840) (visiting .loop small)).port 1).range) =
      (3840, .coarse) := by decide +kernel
/-- The third reading above OFFT in a row asks for the identity. -/
theorem test_loop_reading_off_hook :
    ((ran (.loopReading 0 1000) (visiting .loop (withPort 1 (fun r => { r with pendingCount := 2 }) small))).bus 0).sweep =
      .visit 0 1 .identity := by decide +kernel
/-- Identity 2 is that of entry 1, bound to port 1. -/
theorem test_identity_read : ((ran (.identityRead 0 2 0) (visiting .identity small)).port 1).activity = .originating := by
  decide +kernel
/-- An identity high part of 256 is above every identity. -/
theorem test_identity_read_unknown :
    ((ran (.identityRead 0 2 256) (visiting .identity small)).port 1).activity = .refused .unknown := by decide +kernel
/-- Step 3 of the visit of line 1 reads items 12 and 13 (R38). -/
theorem test_identity_transactions : (visiting .identity small).transactions 0 = [⟨0, 12, none⟩, ⟨0, 13, none⟩] := by decide +kernel
theorem test_drive_write :
    ((ran (.driveWrite 0) (visiting (.drive ⟨true, true⟩) small)).port 1).lastDrive = some ⟨true, true⟩ := by decide +kernel
theorem test_gain_write : ((ran (.gainWrite 0) (visiting (.gain 9 false) small)).port 1).lastGain = some 9 := by decide +kernel
theorem test_probe_reply :
    ((ran (.probeReply 0 7) (withBus (fun b => { b with sweep := .probe 15 }) small)).port 63).service = .active := by decide +kernel
theorem test_no_reply : (((ran (.transactionNoReply 0 false) (visiting .loop small)).bus 0).modul 0).noReply = 1 := by decide +kernel
theorem test_third_no_reply : (((ran (.transactionNoReply 0 false) (visiting .loop
    (withBus (fun b => b.setModule 0 ⟨true, 2⟩) small))).bus 0).modul 0).present = false := by decide +kernel
theorem test_late_reply : ran (.lateReply 0 5) talking = talking := rfl

theorem test_ring_phase : ((ran (.ringPhaseExpiry 2) ringing).port 2).ring = some ⟨0, false, 255, 3000⟩ := by decide +kernel
theorem test_step_expiry : ((ran (.stepExpiry 0) (ringing.setCall 0 (callOf (.offered
    { directed with policy := .sequential, remaining := [3], stepTime := 10, stepExpiry := some 10000 }) none))).port 3).activity =
      .ringing := by decide +kernel
theorem test_offer_expiry : ((ran (.offerExpiry 0) ringing).call 0).lastReason = some .noAnswer := by decide +kernel
theorem test_retest_expiry :
    ((ran (.retestExpiry 1) (withPort 1 (fun r => { r with service := .fault (.waiting (some 500)) }) small)).port 1).service =
      .fault .measuring := by decide +kernel

/-- The highway SYNCED, in the last frame of a block, with the next count announced. -/
def synced (s : State) : State :=
  s.setHighway { Highway.reset with
    state := .synced, position := some 63, announced := some 1, prev := some ⟨flat 1, flat 2⟩, out := some ⟨Vector.replicate 256 none, flat 213⟩ }

theorem test_frame_sync : ((ran (.frameSync true (flat 0) (flat 0)) (synced talking)).highway.count,
    (ran (.frameSync true (flat 0) (flat 0)) (synced talking)).highway.jumpCount) = (1, 0) := by decide +kernel
theorem test_unexpected_sync : ran (.unexpectedSync true) (synced small) = synced small := rfl
theorem test_missed_sync : (ran (.missedSync (flat 0) (flat 0)) (synced small)).highway.missed = 1 := by decide +kernel
theorem test_link_reset_assert : (ran (.linkResetAssert .a) (ask .a enterFrame small)).queue = [] := by decide +kernel
theorem test_link_reset_release : (ran (.linkResetRelease .a) (ran (.linkResetAssert .a) small)).ready .a = true := by
  decide +kernel
/-- HIGHWAY: kind 4, LOST, M 0, jump count 0. -/
theorem test_report_delivery :
    (ran (.reportDelivery .a true) { small with linkA := { small.linkA with report := [.obj .highway] } }).linkA.sending =
      some [4, 0, 0, 0, 0, 0, 0, 0, 0, 0, 0, 0, 0, 0, 0, 0] := by decide +kernel
theorem test_report_frame_sent :
    (ran (.reportFrameSent .a false) { small with linkA := { small.linkA with sending := some [4] } }).linkA.sending = none := by
  decide +kernel

theorem test_step_takes_front : (match step { small with pending := [.sweepStart 0, .sweepStart 1] } with
    | .next t => t.pending
    | _ => []) = [.sweepStart 1] := by decide +kernel

/-! ## What meets the premises of the statements -/

/-- The premise that request `f` of side A is issued next, with its code. -/
theorem asks (f : Frame) (s : State) (free : ∀ k, lineAccessBus f = some k → (s.bus k).direct = none := by decide +kernel) :
    (ask .a f s).Issues (asked .a f) f.code := ask_issues .a f s free

theorem witness_StepTakesFrontCommandOrTicks : { small with pending := [.refresh, .enter] }.pending = .refresh :: [.enter] ∧
    small.pending = [] := ⟨rfl, rfl⟩

/-- Seven requests of side A and four of side B wait. -/
def nearlyFull : State :=
  { small with queue := List.replicate 7 (asked .a (valueFrame 65 0)) ++ List.replicate 4 (asked .b (valueFrame 65 0)) }

/-- `s` with thirteen bytes of an ENTER gathered on side A's link. -/
def thirteen (s : State) : State := s.setLink .a { s.link .a with gathered := (frameBytes enterFrame).take 13 }

theorem witness_RequestFrameTakenOrDiscarded_taken : let s := thirteen nearlyFull
    (s.link .a).linkReset = false ∧ (s.link .a).gathered.length < 16 ∧
      (s.link .a).gathered ++ [31, 0, 0, 7, 7, 7] = frameBytes enterFrame ++ [7, 7, 7] ∧
      s.queued .a + s.undelivered .a < 8 ∧ s.queue.length < 12 := by decide +kernel
theorem witness_RequestFrameTakenOrDiscarded_share :
    let s := { nearlyFull with linkA := { small.linkA with report := [.response ⟨0, .done, []⟩] } }
    (s.link .a).linkReset = false ∧ (s.link .a).gathered ++ frameBytes enterFrame = frameBytes enterFrame ++ [] ∧
      ¬(s.queued .a + s.undelivered .a < 8) := by decide +kernel
theorem witness_RequestFrameTakenOrDiscarded_queue :
    let s := { nearlyFull with queue := asked .b (valueFrame 65 0) :: nearlyFull.queue }
    (s.link .b).linkReset = false ∧ (s.link .b).gathered ++ frameBytes enterFrame = frameBytes enterFrame ++ [] ∧
      ¬s.queue.length < 12 := by decide +kernel
theorem witness_RequestFrameTakenOrDiscarded_bytes :
    ({ small with linkB := { small.linkB with linkReset := true } }.link .b).linkReset = true ∧
    ((thirteen small).link .a).linkReset = false ∧ ((thirteen small).link .a).gathered.length + [31, (0 : Byte)].length < 16 := by
  decide +kernel

/-- A LINE ACCESS that has been issued, and after it a READ ENTRY that is issuable. -/
def behindIssued : State :=
  { slotTaken with
    queue := [{ asked .a lineFrame with issued := true }, { asked .a (entryFrame 7) with serial := 1 }], nextSerial := 2, lastServed := .a }

theorem behindIssued_order : behindIssued.OrderOk where
  named := by decide +kernel
  older := by decide +kernel
  keys := by decide +kernel
  waits := by
    intro before q after h
    change [_, _] = _ at h
    rcases before with _ | ⟨b, _ | ⟨c, rest⟩⟩ <;> simp at h
    · rw [← h.1]; decide
    · rw [← h.1, ← h.2.1]; decide +kernel
  issued := by decide +kernel

theorem witness_ArbiterServesSidesInTurn :
    ∃ q older younger, behindIssued.arbiterChoice = some q ∧ q.side = behindIssued.lastServed ∧
      behindIssued.queue = older ++ q :: younger ∧ older ≠ [] ∧ behindIssued.OrderOk :=
  ⟨{ asked .a (entryFrame 7) with serial := 1 }, [{ asked .a lineFrame with issued := true }], [],
    by decide +kernel, rfl, rfl, by decide, behindIssued_order⟩

theorem witness_RequestUnreadable :
    let f := { entryFrame 3 with b3 := 2, b4 := 0 }
    (ask .a f small).Issues (asked .a f) 3#8 ∧
      requestOf .bar = some (3#8, fun f => (parseEntry f).isSome) ∧ (parseEntry f).isSome = false :=
  ⟨asks _ _, rfl, by decide +kernel⟩
theorem witness_RequestCompletes :
    (ask .a (entryFrame 3) small).Issues (asked .a (entryFrame 3)) 3#8 ∧
      requestOf .bar = some (3#8, fun f => (parseEntry f).isSome) ∧ Instr.bar ≠ .lineAccess :=
  ⟨asks _ _, rfl, by decide⟩
theorem witness_RequestUnknown :
    (ask .a (valueFrame 66 0) small).arbiterChoice = some (asked .a (valueFrame 66 0)) ∧
      ∀ c code readable, requestOf c = some (code, readable) → code ≠ (asked .a (valueFrame 66 0)).frame.code := by
  refine ⟨(asks _ _).1, ?_⟩
  intro c code readable h
  cases c <;> simp only [requestOf, Option.some.injEq, Prod.mk.injEq, reduceCtorEq] at h <;> rw [← h.1] <;> decide

/-- Each entry's keys lead back to it, and are in range. -/
def keysLeadBack (s : State) : Bool :=
  (indexed s.entries).all fun x => match x.2 with
    | none => true
    | some r => s.identityMap r.identity == some x.1 && s.numberMap r.number == some x.1 &&
        r.home.all (fun p => s.homeOf p == some x.1) && decide (1 ≤ r.identity ∧ r.identity ≤ 16777215 ∧ r.number ≤ 9999)

theorem directory_of_keysLeadBack (s : State) (h : keysLeadBack s = true) : s.DirectoryOk := by
  have holder (e : EntryIx) (r : Entry) (hr : s.entry e = some r) : s.identityMap r.identity = some e ∧
      s.numberMap r.number = some e ∧ (∀ p, r.home = some p → s.homeOf p = some e) ∧
      1 ≤ r.identity ∧ r.identity ≤ 16777215 ∧ r.number ≤ 9999 := by
    have one := List.all_eq_true.mp h (e, some r) ((mem_indexed _ _ _).mpr hr)
    simp only [Bool.and_eq_true, beq_iff_eq, decide_eq_true_eq] at one
    refine ⟨one.1.1.1, one.1.1.2, ?_, one.2⟩
    intro p hp
    have home := one.1.2
    rw [hp] at home
    simpa using home
  constructor
  · intro e f r q hr hq same
    have := (holder e r hr).1
    rw [same, (holder f q hq).1] at this
    exact (Option.some.inj this).symm
  · intro e f r q hr hq same
    have := (holder e r hr).2.1
    rw [same, (holder f q hq).2.1] at this
    exact (Option.some.inj this).symm
  · intro e f r q hr hq some same
    obtain ⟨p, hp⟩ := Option.isSome_iff_exists.mp some
    have := (holder e r hr).2.2.1 p hp
    rw [(holder f q hq).2.2.1 p (same ▸ hp)] at this
    exact (Option.some.inj this).symm
  · intro e r hr
    exact ⟨(holder e r hr).2.2.2.1, (holder e r hr).2.2.2.2.1⟩
  · intro e r hr
    exact (holder e r hr).2.2.2.2.2

theorem witness_DirectoryMapsFindTheHolder : small.DirectoryOk := directory_of_keysLeadBack small (by decide +kernel)

/-- Group 3 with its sixteen members, or fifteen. -/
def crowded (n : Nat) : State := small.setGroup 3 ⟨(List.finRange 512).drop 1 |>.take n, .all, 0, 10⟩

theorem witness_Enter_badField : (ask .a { enterFrame with flags := 13 } small).Issues (asked .a { enterFrame with flags := 13 }) 1#8 ∧
    parseEnter { enterFrame with flags := 13 } = none := ⟨asks _ _, by decide +kernel⟩
theorem witness_Enter_inUse : ∃ r, let s := ask .a { enterFrame with b4 := 1 } small
    s.Issues (asked .a { enterFrame with b4 := 1 }) 1#8 ∧ parseEnter { enterFrame with b4 := 1 } = some r ∧
      (s.entry r.entry).isSome = true :=
  ⟨⟨1, 258, 1234, ⟨true, true, true, .allowed⟩, some 9, [3, 31]⟩, asks _ _, by decide +kernel⟩
/-- Identity 00 00 04 is entry 3's. -/
theorem witness_Enter_duplicate_identity : ∃ r, let f := { enterFrame with b6 := 0, b7 := 4 }
    (ask .a f small).Issues (asked .a f) 1#8 ∧ parseEnter f = some r ∧ (ask .a f small).entry r.entry = none ∧
      ((ask .a f small).identityMap r.identity).isSome = true :=
  ⟨⟨5, 4, 1234, ⟨true, true, true, .allowed⟩, some 9, [3, 31]⟩, asks _ _, by decide +kernel⟩
/-- Number 00 04 is entry 3's. -/
theorem witness_Enter_duplicate_number : ∃ r, let f := { enterFrame with b8 := 0, b9 := 4 }
    (ask .a f small).Issues (asked .a f) 1#8 ∧ parseEnter f = some r ∧ (ask .a f small).entry r.entry = none ∧
      ((ask .a f small).numberMap r.number).isSome = true :=
  ⟨⟨5, 258, 4, ⟨true, true, true, .allowed⟩, some 9, [3, 31]⟩, asks _ _, by decide +kernel⟩
/-- Port 9 is entry 2's home port. -/
theorem witness_Enter_duplicate_home : ∃ r, let s := ask .a enterFrame (withEntry 2 (fun r => { r with home := some 9 }) small)
    s.Issues (asked .a enterFrame) 1#8 ∧ parseEnter enterFrame = some r ∧ s.entry r.entry = none ∧
      ∃ p ∈ r.home, (s.homeOf p).isSome = true :=
  ⟨⟨5, 258, 1234, ⟨true, true, true, .allowed⟩, some 9, [3, 31]⟩, asks _ _, by decide +kernel, by decide +kernel,
    9, rfl, by decide +kernel⟩
/-- What the last two clauses of ENTER ask for before they look at the groups. -/
theorem witness_Enter_fits (n : Nat) (h : n = 15 ∨ n = 16) : let s := ask .a enterFrame (crowded n)
    s.Issues (asked .a enterFrame) 1#8 ∧
      parseEnter enterFrame = some ⟨5, 258, 1234, ⟨true, true, true, .allowed⟩, some 9, [3, 31]⟩ ∧
      s.entry 5 = none ∧ s.identityMap 258 = none ∧ s.numberMap 1234 = none ∧ s.homeOf 9 = none := by
  rcases h with rfl | rfl <;> exact ⟨asks _ _, by decide +kernel⟩
theorem witness_Enter_noRoom : ∃ g ∈ [(3 : GroupIx), 31], 16 ≤ ((ask .a enterFrame (crowded 16)).group g).members.length :=
  ⟨3, by decide, by decide +kernel⟩
theorem witness_Enter_done : ∀ g ∈ [(3 : GroupIx), 31], ((ask .a enterFrame (crowded 15)).group g).members.length < 16 := by
  decide +kernel

theorem witness_Amend : (ask .a amendFrame small).Issues (asked .a amendFrame) 2#8 := asks _ _
theorem witness_BarBarsAndUnbarReturns : (ask .a (entryFrame 3) small).Issues (asked .a (entryFrame 3)) 3#8 ∧
    (ask .a (entryFrame 4) small).Issues (asked .a (entryFrame 4)) 4#8 := ⟨asks _ _, asks _ _⟩
theorem witness_Remove : let s := ask .a (entryFrame 5) small
    s.Issues (asked .a (entryFrame 5)) 5#8 ∧ parseEntry (entryFrame 5) = some 1 ∧
      (s.entry 1).any (fun r => r.handler == .a && r.call.isNone) = true :=
  ⟨asks _ _, by decide +kernel⟩
theorem witness_Remove_badField : let f := { entryFrame 5 with b3 := 2 }
    (ask .a f small).Issues (asked .a f) 5#8 ∧ parseEntry f = none := ⟨asks _ _, by decide +kernel⟩
theorem witness_Remove_noEntry : let f := { entryFrame 5 with b3 := 1, b4 := 255 }
    (ask .a f small).Issues (asked .a f) 5#8 ∧ parseEntry f = some 511 ∧ (ask .a f small).entry 511 = none :=
  ⟨asks _ _, by decide +kernel⟩
theorem witness_Remove_notHandler : let s := ask .a (entryFrame 5) (withEntry 1 (fun r => { r with handler := .b }) small)
    s.Issues (asked .a (entryFrame 5)) 5#8 ∧ (s.entry 1).any (fun r => r.handler != .a) = true :=
  ⟨asks _ _, by decide +kernel⟩
theorem witness_Remove_inUse : let s := ask .a (entryFrame 5) talking
    s.Issues (asked .a (entryFrame 5)) 5#8 ∧ (s.entry 1).any (fun r => r.handler == .a && r.call.isSome) = true :=
  ⟨asks _ _, by decide +kernel⟩
theorem witness_ReadsChangeNothing :
    (ask .a lookupFrame small).Issues (asked .a lookupFrame) 6#8 ∧ (ask .a (entryFrame 7) small).Issues (asked .a (entryFrame 7)) 7#8 ∧
    (ask .a readGroupFrame small).Issues (asked .a readGroupFrame) 10#8 ∧
    (ask .a (callFrame 21 0 0) small).Issues (asked .a (callFrame 21 0 0)) 21#8 :=
  ⟨asks _ _, asks _ _, asks _ _, asks _ _⟩
theorem witness_SetGroup_settings : (ask .a settingsFrame small).Issues (asked .a settingsFrame) 9#8 ∧
    parseSetGroup settingsFrame = some ⟨3, .settings .sequential 1 61 []⟩ := ⟨asks _ _, by decide +kernel⟩
theorem witness_SetGroup_replace : (ask .a (membersFrame 1) small).Issues (asked .a (membersFrame 1)) 9#8 ∧
    parseSetGroup (membersFrame 1) = some ⟨3, .replace [1, 2]⟩ := ⟨asks _ _, by decide +kernel⟩
theorem witness_SetGroup_append : (ask .a (membersFrame 2) small).Issues (asked .a (membersFrame 2)) 9#8 ∧
    parseSetGroup (membersFrame 2) = some ⟨3, .append [1, 2]⟩ := ⟨asks _ _, by decide +kernel⟩
theorem witness_SetGroup_drop : (ask .a (membersFrame 3) (crowded 15)).Issues (asked .a (membersFrame 3)) 9#8 ∧
    parseSetGroup (membersFrame 3) = some ⟨3, .drop [1, 2]⟩ := ⟨asks _ _, by decide +kernel⟩

theorem witness_ResolutionAndEligibility : ScrambleClass.always ∈ [ScrambleClass.always, .never] ∧ ScrambleClass.never ∉ [ScrambleClass.always] ∧
    ScrambleClass.always ∉ [ScrambleClass.never] ∧ resolveMode .preferred [.never] = some .off ∧
    resolveMode .required [.allowed] = some .required ∧ resolveMode .preferred [] = some .preferred := by decide
theorem witness_Offer : (ask .a offerFrame calling).Issues (asked .a offerFrame) 16#8 ∧ (parseOffer offerFrame).isSome = true :=
  ⟨asks _ _, by decide +kernel⟩
theorem witness_ConnectTrunk : (ask .a trunkFrame small).Issues (asked .a trunkFrame) 17#8 := asks _ _
theorem witness_Confirm : (ask .a (callFrame 18 0 0) small).Issues (asked .a (callFrame 18 0 0)) 18#8 := asks _ _
theorem witness_Scramble : (ask .a (callFrame 19 2 0) talking).Issues (asked .a (callFrame 19 2 0)) 19#8 := asks _ _
/-- A live call, a FREE one, another generation, and a RELEASING call. -/
theorem witness_Release : let s := ask .a (callFrame 20 0 1) talking
    s.Issues (asked .a (callFrame 20 0 1)) 20#8 ∧ parseRelease (callFrame 20 0 1) = some ⟨⟨0, 1⟩, true⟩ ∧
      (s.call 0).generation = 1 ∧ (s.call 0).body.any (fun b => b.phase != .releasing) = true :=
  ⟨asks _ _, by decide +kernel⟩
theorem witness_Release_free : let s := ask .a (callFrame 20 0 1) small
    s.Issues (asked .a (callFrame 20 0 1)) 20#8 ∧ (s.call 0).body = none := ⟨asks _ _, by decide +kernel⟩
theorem witness_Release_generation : let s := ask .a { callFrame 20 0 1 with b4 := 2 } talking
    s.Issues (asked .a { callFrame 20 0 1 with b4 := 2 }) 20#8 ∧
      parseRelease { callFrame 20 0 1 with b4 := 2 } = some ⟨⟨0, 2⟩, true⟩ ∧ (s.call 0).generation ≠ 2 :=
  ⟨asks _ _, by decide +kernel⟩
theorem witness_Release_releasing : let s := ask .a (callFrame 20 0 1) (small.setCall 0 (callOf .releasing (some 2)))
    s.Issues (asked .a (callFrame 20 0 1)) 20#8 ∧ (s.call 0).generation = 1 ∧
      (s.call 0).body.any (fun b => b.phase == .releasing) = true :=
  ⟨asks _ _, by decide +kernel⟩

theorem witness_RingingStartsAlternatesAndStops : (small.port 2).ring = none ∧ (ringing.port 2).ring = some ⟨0, true, 255, 1000⟩ ∧
    ((withPort 2 (fun r => { r with ring := some ⟨0, false, 255, 1000⟩ }) ringing).port 2).ring = some ⟨0, false, 255, 1000⟩ ∧
    ((withPort 2 (fun r => { r with ring := some ⟨0, false, 2, 1000⟩ }) ringing).port 2).ring = some ⟨0, false, 2, 1000⟩ ∧
    ((withPort 2 (fun r => { r with ring := some ⟨0, false, 1, 1000⟩ }) ringing).port 2).ring = some ⟨0, false, 1, 1000⟩ ∧
    (withPort 2 (fun r => { r with ring := some ⟨0, false, 1, 1000⟩ }) ringing).ringingOn 2 = some (0, 2) := by decide +kernel
theorem witness_OfferTimers : ((talking.call 0).body.bind CallBody.offer?).bind Offer.stepExpiry = none ∧
    (ringing.call 0).body.bind CallBody.offer? = some directed ∧
    { directed with stepExpiry := some 10000 }.stepExpiry = some 10000 := by decide +kernel

theorem witness_LineAccess : (ask .a lineFrame small).Issues (asked .a lineFrame) 32#8 ∧ parseLine lineFrame = some ⟨0, 0, 3, some 5⟩ :=
  ⟨asks _ _, by decide +kernel⟩
theorem witness_DirectStart : ∃ d, (slotTaken.bus 0).direct = some d ∧ d.started = false ∧ (slotTaken.bus 0).isFree = true :=
  ⟨⟨some 0, 0, 3, some 5, false⟩, by decide +kernel⟩
theorem witness_DirectStart_not : (small.bus 0).direct = none ∧ (direct.bus 0).directRuns = true ∧
    ((visiting .loop slotTaken).bus 0).isFree = false := by decide +kernel
theorem witness_DirectTransactionsEnd_none : (small.bus 0).directRuns = false := rfl
/-- A direct transaction to a PRESENT module with count 1 and to an ABSENT module. -/
theorem witness_DirectTransactionsEnd : let s := withBus (fun b => b.setModule 0 ⟨true, 1⟩) direct
    let t := withBus (fun b => b.setModule 0 ⟨false, 0⟩) direct
    ∃ d, (s.bus 0).direct = some d ∧ d.started = true ∧ ((s.bus 0).modul d.modul).present = true ∧ ((s.bus 0).modul d.modul).noReply < 2 ∧
      (t.bus 0).direct = some d ∧ ((t.bus 0).modul d.modul).present = false :=
  ⟨⟨some 0, 0, 3, some 5, true⟩, by decide +kernel⟩

theorem witness_SweepStart_none : ((visiting .loop small).bus 0).sweep ≠ .waiting ∧ (slotTaken.bus 0).direct ≠ none := by
  decide +kernel
theorem witness_SweepStart_empty : let b := (withBus (fun b => b.setModule 0 ⟨false, 0⟩) small).bus 0
    b.sweep = .waiting ∧ b.direct = none ∧ (∀ m, (b.modul m).present = false) ∧ b.sweepNumber ≠ 0 := by decide +kernel
theorem witness_SweepStart_first : let b := (withBus (fun b => (b.setModule 0 ⟨false, 0⟩).setModule 15 ⟨true, 0⟩) small).bus 0
    b.sweep = .waiting ∧ b.direct = none ∧ (b.modul 15).present = true ∧ (∀ i, i < 15 → (b.modul i).present = false) ∧
      b.sweepNumber ≠ 0 := by decide +kernel
theorem witness_SweepStart_probe : let b := State.reset.bus 0
    b.sweep = .waiting ∧ b.direct = none ∧ (b.modul 0).present = false ∧ b.sweepNumber = 0 := by decide +kernel
theorem witness_AfterVisit_line : ((small.bus 0).modul 0).present = true ∧ (3 : LineIx).val = (2 : LineIx).val + 1 ∧
    (small.bus 0).direct = none ∧ (slotTaken.bus 0).direct ≠ none := by decide +kernel
theorem witness_AfterVisit_module : let b := (small.bus 0).setModule 15 ⟨true, 0⟩
    (0 : ModuleIx) < 15 ∧ ((b.modul 15).present = true ∨ b.sweepNumber = 0) ∧
      ∀ i, (0 : ModuleIx) < i → i < 15 → (b.modul i).present = false ∧ b.sweepNumber ≠ 0 := by decide +kernel
theorem witness_AfterVisit_end : ∀ n, (0 : ModuleIx) < n → ((small.bus 0).modul n).present = false ∧ (small.bus 0).sweepNumber ≠ 0 := by
  decide +kernel

/-- The bus premises of a visit step. -/
theorem witness_Visit (step : VisitStep) : ((visiting step small).bus 0).sweep = .visit 0 1 step ∧
    ((visiting step small).bus 0).directRuns = false := ⟨rfl, rfl⟩
theorem witness_Probe : ((withBus (fun b => { b with sweep := .probe 15 }) small).bus 0).sweep = .probe 15 ∧
    ((withBus (fun b => { b with sweep := .probe 15 }) small).bus 0).directRuns = false := ⟨rfl, rfl⟩
/-- The end of a transaction of a sweep where none is in progress: a bus that rests, one that waits before a visit, a visit behind a direct
transaction, a visit in another step. -/
theorem witness_DriveAndGainWrites_none : (small.bus 0).sweep = .waiting ∧ (small.bus 0).directRuns = false ∧
    ((withBus (fun b => { b with sweep := .between 0 1 }) small).bus 0).directRuns = false ∧
    (visiting .loop direct).bus 0 = { direct.bus 0 with sweep := .visit 0 1 .loop } ∧ (direct.bus 0).directRuns = true ∧
    (∀ m l, ((visiting .identity small).bus 0).sweep ≠ .visit m l .loop) ∧ ∀ m, ((visiting .loop small).bus 0).sweep ≠ .probe m :=
  ⟨rfl, rfl, rfl, rfl, rfl, by decide +kernel, by decide +kernel⟩
theorem witness_NoReply : let s := visiting .identity (withBus (fun b => b.setModule 0 ⟨true, 1⟩) small)
    (s.bus 0).directRuns = false ∧ (s.bus 0).sweep = .visit 0 1 .identity ∧ ((s.bus 0).modul 0).present = true ∧
      ((s.bus 0).modul 0).noReply < 2 := by decide +kernel

/-- Every binding and every bound port lead to each other, and a port is ABSENT with its module. -/
def bindingsLeadBack (s : State) : Bool :=
  (indexed s.ports).all (fun x => match x.2.binding with
    | none => true
    | some e => s.boundPort e == some x.1 && x.2.service != .absent) &&
  (indexed s.entries).all (fun x => match x.2.bind Entry.boundPort with
    | none => true
    | some p => (s.port p).binding == some x.1) &&
  decide (∀ k m l, (s.port (portOf k m l)).service = .absent ↔ ((s.bus k).modul m).present = false) &&
  (indexed s.buses).all (fun x => match x.2.sweep with
    | .probe m => !(x.2.modul m).present
    | _ => true)

theorem bindings_of_bindingsLeadBack (s : State) (h : bindingsLeadBack s = true) : s.BindingsOk := by
  simp only [bindingsLeadBack, Bool.and_eq_true, decide_eq_true_eq] at h
  obtain ⟨⟨⟨ports, entries⟩, modules⟩, probes⟩ := h
  have there (p : PortIx) (e : EntryIx) (hp : (s.port p).binding = some e) :
      s.boundPort e = some p ∧ (s.port p).service ≠ .absent := by
    have one := List.all_eq_true.mp ports (p, s.port p) ((mem_indexed _ _ _).mpr rfl)
    simpa [hp] using one
  refine ⟨fun p e => ⟨fun hp => (there p e hp).1, fun he => ?_⟩, fun p absent => ?_, modules, fun k m hm => ?_⟩
  · have one := List.all_eq_true.mp entries (e, s.entry e) ((mem_indexed _ _ _).mpr rfl)
    have he' : (s.entry e).bind Entry.boundPort = some p := he
    simpa [he'] using one
  · cases hb : (s.port p).binding with
    | none => rfl
    | some e => exact absurd absent (there p e hb).2
  · have one := List.all_eq_true.mp probes (k, s.bus k) ((mem_indexed _ _ _).mpr rfl)
    simpa [hm] using one

/-- The module of a talking port and a ringing one has been silent twice. -/
def silentTwice : State := withBus (fun b => b.setModule 0 ⟨true, 2⟩) ringing

/-- Port 1 has a leg of call 0 and entry 2 rings on port 2; no port of bus 1 is reached, nor is call 1. -/
theorem witness_ThirdNoReplyLosesTheModule : let s := visiting .loop silentTwice
    s.BindingsOk ∧ (s.bus 0).directRuns = false ∧ (s.bus 0).sweep = .visit 0 1 .loop ∧ ((s.bus 0).modul 0).present = true ∧
      ¬(VisitStep.loop = .identity ∧ false = true) ∧ 2 ≤ ((s.bus 0).modul 0).noReply ∧
      s.callOfPort (portOf 0 0 1) = some 0 ∧ s.ringingOn (portOf 0 0 2) = some (0, 2) ∧
      (s.port (portOf 0 0 2)).binding = some 2 ∧ s.resetHeld .a = false ∧ (s.call 1).body = none ∧ s.boundPort 0 = none :=
  ⟨bindings_of_bindingsLeadBack _ (by decide +kernel), by decide +kernel⟩
theorem witness_ThirdNoReplyLosesTheModule_noneRings : let s := visiting .loop (withBus (fun b => b.setModule 0 ⟨true, 2⟩) talking)
    s.callOfPort (portOf 0 0 1) = some 0 ∧ ∀ i, s.ringingOn (portOf 0 0 i) = none := by decide +kernel
/-- The third direct NO-REPLY in a row. -/
theorem witness_DirectTransactionsEnd_third : let s := withBus (fun b => { b with direct := some ⟨none, 0, 3, some 5, true⟩ }) silentTwice
    s.BindingsOk ∧ (s.bus 0).direct = some ⟨none, 0, 3, some 5, true⟩ ∧ ((s.bus 0).modul 0).present = true ∧
      2 ≤ ((s.bus 0).modul 0).noReply :=
  ⟨bindings_of_bindingsLeadBack _ (by decide +kernel), by decide +kernel⟩

/-- Line 1 of module 0 is port 1; the bus rests, waits before a visit, runs a direct transaction; a port is FINE or COARSE; code 9 is a gain
code. The other places are those of `witness_Visit` and `witness_Probe`. -/
theorem witness_LineTransactionsAndNoise : portOf 0 0 1 = 1 ∧ (small.bus 0).sweep = .waiting ∧ (small.bus 0).directRuns = false ∧
    ((withBus (fun b => { b with sweep := .between 0 1 }) slotTaken).bus 0).directRuns = false ∧
    (direct.bus 0).direct = some ⟨some 0, 0, 3, some 5, true⟩ ∧ (small.port 1).range = .fine ∧
    ((withPort 1 (fun r => { r with range := .coarse }) small).port 1).range = .coarse ∧ 9 ≤ 63 := by decide +kernel

theorem witness_HoldReleaseAndUnblock : (ask .a (portFrame 33) small).Issues (asked .a (portFrame 33)) 33#8 ∧
    (ask .a (portFrame 34) small).Issues (asked .a (portFrame 34)) 34#8 ∧
    (ask .a (portFrame 36) small).Issues (asked .a (portFrame 36)) 36#8 ∧ parsePort (portFrame 36) = some 1 :=
  ⟨asks _ _, asks _ _, asks _ _, by decide +kernel⟩
theorem witness_BlockPort : (ask .a (portFrame 35) talking).Issues (asked .a (portFrame 35)) 35#8 ∧ parsePort (portFrame 35) = some 1 :=
  ⟨asks _ _, by decide +kernel⟩

/-- `s` with port 1 in its visit, as `f` makes it. -/
def heardAt (f : Port → Port) (step : VisitStep) : State := visiting step (withPort 1 f small)

/-- The bus premises of every statement about a visit of port 1. -/
theorem witness_heardAt (f : Port → Port) (step : VisitStep) : ((heardAt f step).bus 0).sweep = .visit 0 1 step ∧
    ((heardAt f step).bus 0).directRuns = false ∧ portOf 0 0 1 = 1 := ⟨rfl, rfl, rfl⟩

/-- The third reading at OFFT + 1 of a port with the hook ON, and the first at OCT of one with the hook OFF. -/
theorem witness_ActiveReading_offHook :
    let s := heardAt (fun r => { r with pendingCount := 2 }) .loop
    let r := (s.port 1).heard 1001
    r.service = .active ∧ ¬(s.settings.oct ≤ r.loopValue ∧ 1 ≤ r.overRun) ∧
      ¬((r.counts s.settings r.loopValue &&
        decide ((if r.ringJudged then 2 else s.settings.debounce) ≤ min 8 (r.pendingCount + 1))) = true ∧ r.hook = .off) := by
  decide +kernel
theorem witness_ActiveReading_overCurrent :
    let s := heardAt (fun r => { r with hook := .off, range := .coarse }) .loop
    let r := (s.port 1).heard 1000
    r.service = .active ∧ r.loopValue = s.settings.oct ∧ ¬(s.settings.oct ≤ r.loopValue ∧ 1 ≤ r.overRun) ∧
      r.counts s.settings r.loopValue = false := by decide +kernel
theorem witness_OnHook :
    let s := heardAt (fun r => { r with hook := .off, pendingCount := 2, activity := .originating }) .loop
    let r := (s.port 1).heard 599
    r.service = .active ∧ ¬(s.settings.oct ≤ r.loopValue ∧ 1 ≤ r.overRun) ∧ r.hook = .off ∧ r.loopValue < s.settings.ont ∧
      s.settings.debounce ≤ min 8 (r.pendingCount + 1) := by decide +kernel
theorem witness_OverCurrent :
    let s := heardAt (fun r => { r with range := .coarse, overRun := 1 }) .loop
    let r := (s.port 1).heard 1000
    r.service = .active ∧ s.settings.oct ≤ r.loopValue ∧ 1 ≤ r.overRun := by decide +kernel
theorem witness_ReadingsBringBack :
    ((heardAt (fun r => { r with service := .fault .measuring }) .loop).port 1).service ≠ .active ∧
    ((heardAt (fun r => { r with service := .blocked true }) .loop).port 1).service ≠ .active := by decide +kernel
theorem witness_FaultsAreRetestedAndCleared : (ask .a (portFrame 37) small).Issues (asked .a (portFrame 37)) 37#8 ∧
    parsePort (portFrame 37) = some 1 := ⟨asks _ _, by decide +kernel⟩

theorem witness_Admission_idle : let s := visiting .identity small
    (s.bus 0).sweep = .visit 0 1 .identity ∧ (s.bus 0).directRuns = false ∧ (s.port (portOf 0 0 1)).service = .active ∧
      (s.port (portOf 0 0 1)).activity = .idle := by decide +kernel
theorem witness_Admission_originating : let r := (heardAt (fun r => { r with activity := .originating }) .identity).port 1
    r.service = .active ∧ r.activity ≠ .idle ∧ r.activity ≠ .ringing := by decide +kernel
theorem witness_Admission_blocked :
    ((heardAt (fun r => { r with service := .blocked false }) .identity).port 1).service ≠ .active := by decide +kernel
theorem witness_Answer : let s := withBus (fun b => { b with sweep := .visit 0 2 .identity }) ringing
    (s.bus 0).sweep = .visit 0 2 .identity ∧ (s.bus 0).directRuns = false ∧ (s.port 2).service = .active ∧
      (s.port 2).activity = .ringing ∧ s.ringingOn 2 = some (0, 2) ∧ ((s.call 0).body.bind CallBody.offer?).isSome = true ∧
      (s.entry 2).map (·.identity) = some 3 := by decide +kernel

theorem witness_SettingsAreClamped : (ask .a cadenceFrame small).Issues (asked .a cadenceFrame) 48#8 ∧
    (ask .a (valueFrame 53 1) small).Issues (asked .a (valueFrame 53 1)) 53#8 ∧
    (ask .a (valueFrame 54 1) small).Issues (asked .a (valueFrame 54 1)) 54#8 ∧
    (ask .a (valueFrame 55 1) small).Issues (asked .a (valueFrame 55 1)) 55#8 ∧
    (ask .a supervisionFrame small).Issues (asked .a supervisionFrame) 49#8 := by refine ⟨?_, ?_, ?_, ?_, ?_⟩ <;> exact asks _ _
theorem witness_SettingsAreClamped_gain : (ask .a faultModeFrame small).Issues (asked .a faultModeFrame) 50#8 ∧
    (ask .a gainFrame small).Issues (asked .a gainFrame) 51#8 ∧
    (ask .a gainTableFrame small).Issues (asked .a gainTableFrame) 52#8 :=
  ⟨asks _ _, asks _ _, asks _ _⟩
theorem witness_Takeovers : (ask .b (entryFrame 8) talking).Issues (asked .b (entryFrame 8)) 8#8 ∧
    (ask .b (valueFrame 64 0) talking).Issues (asked .b (valueFrame 64 0)) 64#8 :=
  ⟨ask_issues .b _ _, ask_issues .b _ _⟩
theorem witness_Refresh : (ask .a (valueFrame 65 0) talking).Issues (asked .a (valueFrame 65 0)) 65#8 := asks _ _

theorem witness_SyncedFrameSync : (synced talking).highway.state = .synced := rfl
theorem witness_HighwayIsLostAndRegained : (synced talking).highway.state = .synced ∧ talking.highway.state = .lost := ⟨rfl, rfl⟩

/-- The call of entries 1 and 2 with both paths at `path`; leg CALLING has RUNNING contexts. -/
def onPath (path : Path) : State :=
  let call := callOf .connected (some 2)
  let block := List.replicate 64 (7 : Byte)
  { (synced talking).setCall 0 { call with body := call.body.map fun b => { b with
      calling := b.calling.map fun l => { l with path := path }, called := b.called.map fun l => { l with path := path } } } with
    contexts := (talking.contexts.set 0 (some ⟨0, .calling, .scramble, 1, 0, .running [] none block (blockPerm 1 0)⟩)).set 1
      (some ⟨0, .calling, .descramble, 2, 0, .running [] (some 0) block (blockPerm 2 0)⟩) }

theorem witness_FramesCarryTheLiveLegs (path : Path) : (onPath path).SlotsOk ∧
    (((onPath path).call 0).body.bind (·.leg .calling)).map (fun l => (l.path, l.port)) = some (path, some 1) ∧
    ((onPath path).call 0).body.map (·.phase) = some .connected ∧ (onPath path).highway.prev.isSome = true := by
  refine ⟨?_, by cases path <;> decide +kernel, by cases path <;> decide +kernel, by cases path <;> decide +kernel⟩
  unfold State.SlotsOk
  cases path <;> decide +kernel
theorem witness_FramesCarryTheLiveLegs_contexts :
    ((onPath .scrambled).contextOf 0 .calling .scramble).isSome = true ∧
    ((onPath .scrambled).contextOf 0 .calling .descramble).isSome = true ∧
    ((onPath .scrambled).settings.quietCode = 213) := by decide +kernel

/-- Before any frame of a new search there is none to pass on. -/
theorem witness_FramesCarryTheLiveLegs_first : let s := (onPath .clear).setHighway { (onPath .clear).highway with prev := none }
    s.SlotsOk ∧ s.highway.prev = none ∧
    ((s.call 0).body.bind (·.leg .calling)).map (fun l => (l.path, l.port)) = some (.clear, some 1) := by
  refine ⟨?_, by decide +kernel⟩
  unfold State.SlotsOk
  decide +kernel

theorem witness_DescramblingUndoesScrambling : (List.replicate 64 (0x80 : Byte)).length = 64 := rfl

/-- R130's table: S is forward, S + 8,388,608 reverse, which wraps at 16,777,216. -/
theorem test_variant_seeds : [Role.calling, .called].map (fun r => (variantSeed 8388609#24 r .scramble, variantSeed 8388609#24 r .descramble)) =
    [(8388609#24, 1#24), (1#24, 8388609#24)] := by decide +kernel
/-- 08 section 8.7: a forward block. -/
theorem test_forward_block : blockPerm 1000000 (blockIndex 3 0) = ⟨#v[3, 2, 4, 5, 1, 6, 0, 7], 9⟩ := by decide +kernel
/-- 08 section 8.8: a reverse block at the wrap of the count. -/
theorem test_reverse_block : blockPerm 3611392 (blockIndex 4 65530) = ⟨#v[3, 4, 7, 5, 1, 0, 6, 2], 142⟩ := by decide +kernel
/-- 08 section 8.7: a sample of 200 in input segment 3 leaves in output segment 0 as 72. -/
theorem test_scrambled_sample :
    (scrambleBlock (blockPerm 1000000 3) ((List.replicate 64 (0 : Byte)).set 24 200))[0]? = some 72 := by decide +kernel

theorem witness_RequestFramesAreReadBack : widestEnter.wf = true ∧ (AmendArgs.mk 511 none (.set 255) (some 9999)).wf = true ∧
    (LookupKey.identity 16777215).wf = true ∧ (LookupKey.number 9999).wf = true ∧
    (SetGroupArgs.mk 31 (.append [508, 509, 510, 511])).wf = true ∧
    (GainTableArgs.mk true [0, 0, 0, 0, 0, 0, 0, 255]).wf = true ∧ 255 < 256 := by decide
theorem witness_EveryFrameIsReadByItsLayout : parseEntry (entryFrame 3) = some 1 ∧ parseLookup lookupFrame = some (.identity 2) ∧
    parseReadGroup readGroupFrame = some ⟨3, 0⟩ ∧ parseConfirm (callFrame 18 0 0) = some ⟨0, 1⟩ ∧
    parseScramble (callFrame 19 2 0) = some ⟨⟨0, 1⟩, .required⟩ ∧ parseRelease (callFrame 20 0 1) = some ⟨⟨0, 1⟩, true⟩ ∧
    parseReadCall (callFrame 21 0 0) = some ⟨0, 1⟩ ∧ parsePort (portFrame 33) = some 1 ∧
    parseCadence cadenceFrame = some ⟨2, 1023, 1, 0⟩ ∧ parseSupervision supervisionFrame = some ⟨0, 500, 0, 0, 65535, 9⟩ ∧
    parseFaultMode faultModeFrame = some ⟨.latched, 1⟩ ∧ parseGain gainFrame = some ⟨65535, 0⟩ ∧
    parseGainTable gainTableFrame = some ⟨true, [1, 2, 3, 4, 5, 6, 7, 200]⟩ ∧ parseValue (valueFrame 53 1) = some 1 ∧
    parseNone (valueFrame 64 0) = some () := by decide +kernel
/-- The six readers whose layouts have bits that the flags may leave unused, each on a frame with such a bit set. -/
theorem witness_EveryFrameIsReadByItsLayout_unused :
    parseEnter { enterFrame with flags := 1 } = some ⟨5, 258, 1234, ⟨true, true, true, .allowed⟩, none, [3]⟩ ∧
    parseAmend { amendFrame with flags := 4 } = some ⟨1, none, .clear, none⟩ ∧
    parseSetGroup { membersFrame 3 with flags := 7 } = some ⟨3, .drop [1]⟩ ∧
    parseOffer { offerFrame with flags := 12 } = some ⟨some ⟨1, 12, 13⟩, .entry 2, 10, 11, 0xABCD, none, .preferred, none, none⟩ ∧
    parseTrunk { trunkFrame with b10 := 1 } = some ⟨1, .called, 20, 21, 0, none, .off⟩ ∧
    parseLine { lineFrame with flags := 0 } = some ⟨0, 0, 3, none⟩ := by decide +kernel
/-- What they refuse, at the ends of the ranges: identity 0, number 10,000, a group twice, five groups, both home port flags, group 32 and
five entries, slot 255, mode 3, an undefined flag or byte, bus 4. -/
theorem test_refused_frames :
    (∀ f ∈ [{ enterFrame with b6 := 0, b7 := 0 }, { enterFrame with b8 := 0x27, b9 := 0x10 }, { enterFrame with b13 := 3 },
      { enterFrame with flags := 5 }], parseEnter f = none) ∧
    parseAmend { amendFrame with flags := 6 } = none ∧ parseAmend { amendFrame with b7 := 0x27, b8 := 0x10 } = none ∧
    parseSetGroup { membersFrame 2 with b3 := 32 } = none ∧ parseSetGroup { membersFrame 2 with flags := 22 } = none ∧
    (∀ f ∈ [{ offerFrame with b6 := 255 }, { offerFrame with b9 := 255 }, { offerFrame with flags := 120 },
      { offerFrame with flags := 105 }, { offerFrame with b5 := 0x91 }], parseOffer f = none) ∧
    (∀ f ∈ [{ trunkFrame with b5 := 255 }, { trunkFrame with b12 := 1 }], parseTrunk f = none) ∧
    parseLine { lineFrame with b3 := 4 } = none ∧ parseLine { lineFrame with flags := 2 } = none := by decide +kernel

/-- Four groups of an entry, and an offer for parts 3 to 11 of READ CALL. -/
theorem witness_ReadResultsCarryTheFields : (handset 1 .entered).groups.length ≤ 4 ∧ [0, 1, 2, (31 : GroupIx)].length ≤ 4 ∧
    (ringing.call 0).body.bind CallBody.offer? = some directed ∧ 4 * (4 - 4) < directed.ringing.length := by decide +kernel

/-- `s` with one command waiting. -/
def due (c : Instr) (s : State) : State := { s with pending := [c] }

theorem order_due {c : Instr} {s : State} (h : s.OrderOk) : (due c s).OrderOk := ⟨h.named, h.older, h.keys, h.waits, h.issued⟩
theorem bindings_due {c : Instr} {s : State} (h : s.BindingsOk) : (due c s).BindingsOk :=
  ⟨h.bothWays, h.absentUnbound, h.withModule, h.probed⟩
theorem contexts_due {c : Instr} {s : State} (h : s.ContextsOk) : (due c s).ContextsOk :=
  ⟨h.owned, h.held, h.alike, h.waiting, h.counted⟩
theorem calls_due {c : Instr} {s : State} (h : s.CallsOk) : (due c s).CallsOk :=
  ⟨h.callField, h.talking, h.ringing, h.ringState, h.inService, h.members, h.seated, h.awaiting, h.apart⟩

theorem witness_StepKeepsQueueAndListBounds :
    (due (.requestFrame .a (frameBytes enterFrame)) nearlyFull).LinksOk ∧
    ∃ t, step (due (.requestFrame .a (frameBytes enterFrame)) nearlyFull) = .next t := by
  refine ⟨⟨by decide +kernel, ?_, ?_, ?_, ?_, ?_, ?_, ?_⟩, _, rfl⟩ <;> intro x <;> cases x <;> decide +kernel
theorem witness_StepKeepsRequestOrder :
    (due .readEntry behindIssued).OrderOk ∧ ∃ t, step (due .readEntry behindIssued) = .next t :=
  ⟨order_due behindIssued_order, _, rfl⟩

/-- Entry 1 alone in group 3. -/
def grouped : State := (withEntry 1 (fun r => { r with groups := [3] }) small).setGroup 3 ⟨[1], .all, 0, 10⟩

/-- Members and groups lists that lead to each other. -/
def groupsLeadBack (s : State) : Bool :=
  (indexed s.groups).all (fun x => x.2.members.all (fun e => (s.entry e).any fun r => r.groups.contains x.1) &&
    decide x.2.members.Nodup && decide (x.2.members.length ≤ 16)) &&
  (indexed s.entries).all (fun x => match x.2 with
    | none => true
    | some r => r.groups.all (fun g => (s.group g).members.contains x.1) && decide r.groups.Nodup && decide (r.groups.length ≤ 4))

theorem groups_of_groupsLeadBack (s : State) (h : groupsLeadBack s = true) : s.GroupsOk := by
  simp only [groupsLeadBack, Bool.and_eq_true] at h
  have ofGroup (g : GroupIx) := List.all_eq_true.mp h.1 (g, s.group g) ((mem_indexed _ _ _).mpr rfl)
  have ofEntry (e : EntryIx) (r : Entry) (hr : s.entry e = some r) :=
    List.all_eq_true.mp h.2 (e, some r) ((mem_indexed _ _ _).mpr hr)
  simp only [Bool.and_eq_true, decide_eq_true_eq, List.all_eq_true, List.contains_iff_mem, Option.any_eq_true] at ofGroup ofEntry
  exact ⟨fun e g => ⟨fun he => (ofGroup g).1.1 e he, fun ⟨r, hr, hg⟩ => (ofEntry e r hr).1.1 g hg⟩, fun g => (ofGroup g).1.2,
    fun g => (ofGroup g).2, fun e r hr => (ofEntry e r hr).1.2, fun e r hr => (ofEntry e r hr).2⟩

theorem witness_StepKeepsTheDirectoryLaws : (due .enter (ask .a enterFrame small)).DirectoryOk ∧
    (due (.sweepStart 0) grouped).GroupsOk ∧ (∃ t, step (due .enter (ask .a enterFrame small)) = .next t) ∧
    ∃ t, step (due (.sweepStart 0) grouped) = .next t :=
  ⟨directory_of_keysLeadBack _ (by decide +kernel), groups_of_groupsLeadBack _ (by decide +kernel), ⟨_, rfl⟩, _, rfl⟩
/-- Entries 1 and 2 in a call that holds four contexts. -/
def scrambling : State := did .scramble (callFrame 19 2 0) talking

/-- R125: the four lowest contexts, in the order of the legs and directions. -/
theorem test_contexts_taken : [0, 1, 2, 3].map (fun i => (scrambling.context i).map fun r => (r.role, r.direction)) =
    [some (.calling, .scramble), some (.calling, .descramble), some (.called, .scramble), some (.called, .descramble)] := by decide +kernel

/-- Call 0 is the only call of a state. -/
def onlyCall (s : State) : Bool := (indexed s.calls).all fun x => x.1 == 0 || x.2.body.isNone

theorem of_onlyCall {s : State} (h : onlyCall s = true) (c : CallIx) (b : CallBody) (hb : (s.call c).body = some b) : c = 0 := by
  have one := List.all_eq_true.mp h (c, s.call c) ((mem_indexed _ _ _).mpr rfl)
  simpa [hb] using one

theorem scrambling_contexts : scrambling.ContextsOk where
  owned x r h := by
    have all : (indexed scrambling.contexts).all (fun x => match x.2 with
      | none => true
      | some r => ((scrambling.call r.call).body.bind (·.leg r.role)).any fun l => l.contexts == 2) = true := by decide +kernel
    have one := List.all_eq_true.mp all (x, some r) ((mem_indexed _ _ _).mpr h)
    obtain ⟨l, hl, two⟩ := Option.any_eq_true _ _ |>.mp one
    obtain ⟨b, hb, hl⟩ := Option.bind_eq_some_iff.mp hl
    exact ⟨b, l, hb, hl, by simpa using two⟩
  held c b role l hb hl := by
    obtain rfl := of_onlyCall (by decide +kernel) c b hb
    have given : ∀ role d, ((scrambling.call 0).body.all fun b => (b.leg role).all fun l => l.contexts == 2 &&
        (scrambling.contextsOf 0 role d).length == 1 && (scrambling.contextsOf 0 role d).all fun r =>
          r.variant == variantSeed b.seed role d && r.anchor == b.anchor) = true := by
      intro role d
      cases role <;> cases d <;> decide +kernel
    right
    refine ⟨?_, fun d => ?_⟩
    · have one := given role .scramble
      simp only [hb, hl, Option.all_some, Bool.and_eq_true, beq_iff_eq] at one
      exact one.1.1
    · have one := given role d
      simp only [hb, hl, Option.all_some, Bool.and_eq_true, beq_iff_eq, List.all_eq_true] at one
      obtain ⟨r, hr⟩ := List.length_eq_one_iff.mp one.1.2
      exact ⟨r, hr, one.2 r (by simp [hr])⟩
  alike c b l l' hb hl hl' := by
    obtain rfl := of_onlyCall (by decide +kernel) c b hb
    have same : ((scrambling.call 0).body.all fun b => b.calling.all fun l => b.called.all fun l' => l.contexts == l'.contexts) = true := by
      decide +kernel
    simpa [hb, hl, hl'] using same
  waiting c b role l hb early _ := by
    obtain rfl := of_onlyCall (by decide +kernel) c b hb
    have late : ((scrambling.call 0).body.all fun b => b.offer?.isNone && b.phase != .provisional) = true := by decide +kernel
    simp only [hb, Option.all_some, Bool.and_eq_true, Option.isNone_iff_eq_none, bne_iff_ne] at late
    simp [late.1, late.2] at early
  counted := by decide +kernel

theorem witness_StepKeepsSlotsAndContexts : (due (.offerExpiry 0) ringing).SlotsOk ∧
    (due (.missedSync (flat 0) (flat 0)) scrambling).ContextsOk ∧ (∃ t, step (due (.offerExpiry 0) ringing) = .next t) ∧
    ∃ t, step (due (.missedSync (flat 0) (flat 0)) scrambling) = .next t := by
  refine ⟨?_, ?_, ⟨_, rfl⟩, _, rfl⟩
  · unfold State.SlotsOk
    decide +kernel
  · exact contexts_due scrambling_contexts

/-- The body of the offer in `ringing`. -/
def offeredBody : CallBody := ⟨.offered directed, .a, .internal, 0, 0, .off, false, some (legAt (some 1) 1 12 13), some (legAt none 2 10 11)⟩

theorem ringing_live (c : CallIx) (b : CallBody) : ringing.Live c b ↔ c = 0 ∧ b = offeredBody := by
  have body : (ringing.call 0).body = some offeredBody := by decide +kernel
  constructor
  · intro h
    obtain rfl := of_onlyCall (by decide +kernel) c b h.1
    exact ⟨rfl, Option.some.inj (h.1.symm.trans body)⟩
  · rintro ⟨rfl, rfl⟩
    exact ⟨body, by decide⟩

theorem ringing_bindings : ringing.BindingsOk := bindings_of_bindingsLeadBack _ (by decide +kernel)
theorem ringing_callField (e : EntryIx) : (ringing.entry e).bind Entry.call =
    if e ∈ offeredBody.legEntries ∨ e ∈ offeredBody.ringingList then some 0 else none := by
  have all : (indexed ringing.entries).all (fun x => x.2.bind Entry.call ==
      if x.1 ∈ offeredBody.legEntries ∨ x.1 ∈ offeredBody.ringingList then some 0 else none) = true := by decide +kernel
  exact eq_of_beq (List.all_eq_true.mp all (e, ringing.entry e) ((mem_indexed _ _ _).mpr rfl))
theorem offeredBody_lists : offeredBody.legPorts = [1] ∧ offeredBody.ringingList = [2] := by decide +kernel
theorem ringing_binding (p : PortIx) : (ringing.port p).binding = some 2 ↔ p = 2 := by
  rw [ringing_bindings.bothWays p 2, show ringing.boundPort 2 = some 2 by decide +kernel]
  simp [eq_comm]
theorem ringing_others (p : PortIx) (h1 : p ≠ 1) (h2 : p ≠ 2) : (ringing.port p).activity = .idle ∧ (ringing.port p).ring = none := by
  have all : (indexed ringing.ports).all (fun x => x.1 == 1 || x.1 == 2 || (x.2.activity == .idle && x.2.ring == none)) = true := by
    decide +kernel
  simpa [h1, h2] using List.all_eq_true.mp all (p, ringing.port p) ((mem_indexed _ _ _).mpr rfl)
theorem ringing_ports (p : PortIx) : ((ringing.port p).activity = .talking ↔ p ∈ offeredBody.legPorts) ∧
    ((ringing.port p).activity = .ringing ↔ ∃ e ∈ offeredBody.ringingList, (ringing.port p).binding = some e) ∧
    ((ringing.port p).ring.isSome = true ↔ (ringing.port p).activity = .ringing) ∧
    ((ringing.port p).service ≠ .active → (ringing.port p).activity ≠ .talking ∧ (ringing.port p).activity ≠ .ringing) := by
  by_cases h1 : p = 1
  · subst h1; decide +kernel
  by_cases h2 : p = 2
  · subst h2; decide +kernel
  obtain ⟨activity, ring⟩ := ringing_others p h1 h2
  rw [activity, ring]
  simp [offeredBody_lists, h1, ringing_binding, h2]
theorem offeredBody_legs : (∀ e ∈ offeredBody.ringingList, (ringing.boundPort e).isSome = true) ∧ offeredBody.legPorts.Nodup ∧
    ringing.boundPort 1 = some 1 ∧ offeredBody.leg .calling = some (legAt (some 1) 1 12 13) ∧ offeredBody.offer? = some directed := by
  decide +kernel

theorem ringing_calls : ringing.CallsOk where
  callField e c := by
    rw [ringing_callField]
    simp only [ringing_live]
    split <;> simp_all [eq_comm]
  talking p := by
    rw [(ringing_ports p).1]
    simp [ringing_live]
  ringing p := by
    rw [(ringing_ports p).2.1]
    simp only [ringing_live]
    constructor
    · rintro ⟨e, he, hp⟩
      exact ⟨e, 0, _, hp, ⟨rfl, rfl⟩, he⟩
    · rintro ⟨e, c, b, hp, ⟨rfl, rfl⟩, he⟩
      exact ⟨e, he, hp⟩
  ringState p := (ringing_ports p).2.2.1
  inService p := (ringing_ports p).2.2.2
  members c b h := by
    rw [((ringing_live c b).mp h).2]
    exact offeredBody_legs.1
  seated c b h role l hl offered := by
    rw [((ringing_live c b).mp h).2] at hl offered
    rw [offered (by rw [offeredBody_legs.2.2.2.2]; rfl), offeredBody_legs.2.2.2.1] at hl
    rw [← Option.some.inj hl]
    exact ⟨1, 1, rfl, rfl, offeredBody_legs.2.2.1⟩
  awaiting c b o h ho := by
    rw [((ringing_live c b).mp h).2] at ho ⊢
    rw [offeredBody_legs.2.2.2.2] at ho
    rw [← Option.some.inj ho]
    refine ⟨legAt none 2 10 11, rfl, rfl, fun e he => ?_⟩
    rw [← Option.some.inj he]
    exact ⟨rfl, rfl⟩
  apart c b h := by
    rw [((ringing_live c b).mp h).2]
    exact offeredBody_legs.2.1

theorem witness_StepKeepsCallsTogether : (due (.offerExpiry 0) ringing).BindingsOk ∧ (due (.offerExpiry 0) ringing).CallsOk ∧
    ∃ t, step (due (.offerExpiry 0) ringing) = .next t :=
  ⟨bindings_due ringing_bindings, calls_due ringing_calls, _, rfl⟩
theorem witness_StepKeepsBindingsTogether : (due (.sweepStart 0) small).BindingsOk ∧
    ∃ t, step (due (.sweepStart 0) small) = .next t :=
  ⟨bindings_of_bindingsLeadBack _ (by decide +kernel), _, rfl⟩
theorem witness_StepKeepsSettingsAndHighwayInRange : (due .setGain (ask .a gainFrame (synced small))).SettingsOk ∧
    (due .setGain (ask .a gainFrame (synced small))).HighwayOk ∧
    ∃ t, step (due .setGain (ask .a gainFrame (synced small))) = .next t := by
  refine ⟨?_, ?_, _, rfl⟩ <;> constructor <;> decide +kernel
end Sys2Proof.Tests
end

/-! SUPPORT. What a request's event marks (R157), said once: nothing in the requester's own list, and in the other side's list the
objects it touched, in their order. Then the completion of a request whose event marks so. -/

namespace Sys2Proof.Machine

/-! ## The order of marks -/

/-- R157: an object of an event is marked once, however often the event touches it. -/
theorem insertObj_twice (o : Obj) (os : List Obj) : insertObj o (insertObj o os) = insertObj o os := by
  induction os with
  | nil => simp [insertObj]
  | cons x xs ih =>
    by_cases before : o.rank < x.rank
    · simp [insertObj, before]
    · by_cases same : o = x
      · subst same; simp [insertObj]
      · simp [insertObj, before, same, ih]

/-- R157: an ENTRY joins before a PORT that its event has touched. -/
theorem insertObj_entry_ports (e : EntryIx) (p : Option PortIx) :
    insertObj (.entry e) ((p.toList.map Obj.port).foldr insertObj []) = .entry e :: p.toList.map .port := by
  cases p with
  | none => rfl
  | some p =>
    have before : e.val < 512 + p.val := by omega
    simp [insertObj, Obj.rank, before]

/-- R157: a PORT joins after an ENTRY that its event has touched. -/
theorem insertObj_ports_entry (e : EntryIx) (p : Option PortIx) :
    (p.toList.map Obj.port).foldr insertObj [.entry e] = .entry e :: p.toList.map .port := by
  cases p with
  | none => rfl
  | some p =>
    have after : ¬512 + p.val < e.val := by omega
    simp [insertObj, Obj.rank, after]

/-! ## The marks of a request's event -/

/-- The objects an event marks in a side's list, in the order in which they join it. -/
def Work.marksFor (w : Work) : Side → List Obj
  | .a => orderObjs w.toA
  | .b => orderObjs w.toB

/-- Event `w` is caused by a request of side `x` and marks `os`, in this order, in the other side's list alone (R157). -/
structure Work.RequestMarks (w : Work) (x : Side) (os : List Obj) : Prop where
  cause : w.cause = .request x
  own : w.marksFor x = []
  other : w.marksFor x.other = os

theorem Work.touchSide_marksFor (w : Work) (x : Side) (o : Obj) :
    (w.touchSide x o).marksFor x = insertObj o (w.marksFor x) := by
  cases x <;> rfl

theorem Work.touchSide_other_marksFor (w : Work) (x : Side) (o : Obj) : (w.touchSide x.other o).marksFor x = w.marksFor x := by
  cases x <;> rfl

theorem begin_marks (x : Side) (s : State) : (begin_ x s).RequestMarks x [] := by
  constructor <;> cases x <;> rfl

section
variable {w : Work} {x : Side} {os : List Obj}

theorem Work.RequestMarks.onState (h : w.RequestMarks x os) (f : State → State) : (w.onState f).RequestMarks x os := by
  obtain ⟨cause, own, other⟩ := h
  exact ⟨cause, by cases x <;> exact own, by cases x <;> exact other⟩

theorem Work.RequestMarks.touchOther (h : w.RequestMarks x os) (o : Obj) :
    (w.touchSide x.other o).RequestMarks x (insertObj o os) where
  cause := by rw [touchSide_cause, h.cause]
  own := by rw [touchSide_other_marksFor, h.own]
  other := by rw [touchSide_marksFor, h.other]

theorem Work.RequestMarks.touch (h : w.RequestMarks x os) (o : Obj) : (w.touch o).RequestMarks x (insertObj o os) := by
  simp only [Work.touch, h.cause]
  exact h.touchOther o

/-- R158: a request that records an event at port `p` marks the port, unless the other side's LINK RESET is held. -/
theorem Work.RequestMarks.recordEvent (h : w.RequestMarks x os) (p : PortIx) (ev : PortEvent) :
    (w.recordEvent p ev).RequestMarks x (if w.st.resetHeld x.other then os else insertObj (.port p) os) := by
  simp only [Work.recordEvent, h.cause, Work.recordFor]
  split
  · exact h
  · exact (h.onState _).touchOther _

end

@[simp] theorem State.setPort_port (s : State) (p : PortIx) : s.setPort p (s.port p) = s := by
  simp [State.setPort, State.port]

@[simp] theorem State.setPort_setPort (s : State) (p : PortIx) (r r' : Port) : (s.setPort p r).setPort p r' = s.setPort p r' := by
  simp [State.setPort]

/-- R158: what a request of side `x` that records an event leaves of the port. -/
theorem Work.recordEvent_st_of_request {w : Work} {x : Side} (h : w.cause = .request x) (p : PortIx) (ev : PortEvent) :
    (w.recordEvent p ev).st = w.st.setPort p (w.st.withEvent x.other ev (w.st.port p)) := by
  simp only [Work.recordEvent, h, Work.recordFor_st]
  split
  · simp [State.withEvent, *]
  · rfl

/-- `s` once side `x` was served last, which is how a request's block finds it (R144). -/
def State.serving (s : State) (x : Side) : State := { s with lastServed := x }

/-- R145: a request that is issued and passes its checks, completed by the marks of its event. -/
theorem issue_done_of_marks {α : Type} {code : Byte} {parse : Frame → Option α} {body : Side → α → State → Answer} {s : State}
    {q : QueueEntry} {r : α} {w : Work} {result : List Byte} {t : State} {os : List Obj} (h : s.Issues q code)
    (hp : parse q.frame = some r) (hb : body q.side r (s.serving q.side) = .ok (w, result))
    (ht : w.st = t.serving q.side) (hm : w.RequestMarks q.side os) :
    issue code parse body s = .next (t.completed q .done result os) := by
  rw [issue_ok h hp hb, Work.complete_eq, ht]
  obtain ⟨-, own, other⟩ := hm
  cases hs : q.side <;> simp only [hs, Work.marksFor, Side.other] at own other <;>
    simp [State.completed, State.serving, hs, own, other]

/-! ## The records of a completed request -/

section
variable (s : State) (q : QueueEntry) (status : Status) (result : List Byte) (marks : List Obj)

@[simp] theorem State.completed_entry (e : EntryIx) : (s.completed q status result marks).entry e = s.entry e := rfl
@[simp] theorem State.completed_group (g : GroupIx) : (s.completed q status result marks).group g = s.group g := rfl
@[simp] theorem State.completed_port (p : PortIx) : (s.completed q status result marks).port p = s.port p := rfl
@[simp] theorem State.completed_call (c : CallIx) : (s.completed q status result marks).call c = s.call c := rfl

end

end Sys2Proof.Machine

/-! SUPPORT. The directory requests ENTER, BAR, UNBAR and REMOVE (01): what their shared operations leave of the state, their checks
one by one, and the statements about them. -/

namespace Sys2Proof.Machine

/-! ## A port loses its binding (R33) -/

/-- `s` once a request of side `x` has unbound the port of an entry with record `r`; an entry that is not BOUND has none (R33). -/
def State.unboundFrom (s : State) (x : Side) (why : RefusalReason) (r : Entry) : State :=
  match r.boundPort with
  | some p => s.setPort p (s.unbound x why (s.port p))
  | none => s

theorem State.port_unboundFrom (s : State) (x : Side) (why : RefusalReason) (r : Entry) (p : PortIx) :
    (s.unboundFrom x why r).port p = if r.boundPort = some p then s.unbound x why (s.port p) else s.port p := by
  unfold State.unboundFrom
  cases r.boundPort with
  | none => simp
  | some b =>
    by_cases h : p = b
    · subst h; simp
    · simp [State.port_setPort, h, Ne.symm h]

/-- Unbinding a port changes the port table alone. -/
theorem State.unboundFrom_frame (s : State) (x : Side) (why : RefusalReason) (r : Entry) :
    s.unboundFrom x why r = s.setPorts (s.unboundFrom x why r).ports := by
  unfold State.unboundFrom
  split <;> rfl

/-- Unbinding looks at the ports and the links, and not at which side was served last. -/
theorem State.unboundFrom_serving (s : State) (y x : Side) (why : RefusalReason) (r : Entry) :
    (s.serving y).unboundFrom x why r = (s.unboundFrom x why r).serving y := by
  unfold State.unboundFrom
  cases r.boundPort <;> rfl

theorem Work.unbindPort_st {w : Work} {x : Side} (h : w.cause = .request x) (p : PortIx) (why : RefusalReason) :
    (w.unbindPort p why).st = w.st.setPort p (w.st.unbound x why (w.st.port p)) := by
  by_cases was : (w.st.port p).activity = .originating
  · have cause (f : Port → Port) : ((w.onPort p f).touch (.port p)).cause = .request x := by simpa using h
    simp only [Work.unbindPort, if_pos was]
    rw [Work.recordEvent_st_of_request (cause _), Work.touch_st, Work.onPort_st, State.port_setPort_same,
      State.setPort_setPort, State.unbound, if_pos was]
    rfl
  · simp [Work.unbindPort, State.unbound, was]

/-- R33, R157: the port is marked, once, whether or not REFUSED is recorded at it. -/
theorem Work.RequestMarks.unbindPort {w : Work} {x : Side} {os : List Obj} (h : w.RequestMarks x os) (p : PortIx)
    (why : RefusalReason) : (w.unbindPort p why).RequestMarks x (insertObj (.port p) os) := by
  simp only [Work.unbindPort]
  split
  · have touched := (h.onState fun s => s.setPort p (Port.refuse { s.port p with binding := none } why)).touch (.port p)
    have recorded := touched.recordEvent p .refused
    rwa [insertObj_twice, ite_self] at recorded
  · exact (h.onState _).touch _

theorem Work.unbindEntryPort_st {w : Work} {x : Side} (h : w.cause = .request x) (r : Entry) (why : RefusalReason) :
    (w.unbindEntryPort r why).st = w.st.unboundFrom x why r := by
  unfold Work.unbindEntryPort State.unboundFrom
  cases r.boundPort with
  | some p => exact Work.unbindPort_st h p why
  | none => rfl

theorem Work.RequestMarks.unbindEntryPort {w : Work} {x : Side} {os : List Obj} (h : w.RequestMarks x os) (r : Entry)
    (why : RefusalReason) :
    (w.unbindEntryPort r why).RequestMarks x ((r.boundPort.toList.map Obj.port).foldr insertObj os) := by
  unfold Work.unbindEntryPort
  cases r.boundPort with
  | some p => exact h.unbindPort p why
  | none => exact h

/-! ## ENTER (R11) -/

/-- `s` once `e` has joined the tail of the member list of each of these groups. -/
def State.joined (s : State) (gs : List GroupIx) (e : EntryIx) : State :=
  s.setGroups (mapIx (fun g r => if g ∈ gs then { r with members := r.members ++ [e] } else r) s.groups)

theorem State.group_joined (s : State) (gs : List GroupIx) (e : EntryIx) (g : GroupIx) :
    (s.joined gs e).group g = if g ∈ gs then { s.group g with members := (s.group g).members ++ [e] } else s.group g := by
  simp [State.joined, State.group]

/-- R11: appending to one group after another, none of them twice, is appending to all of them. -/
theorem State.foldl_append_member (e : EntryIx) {gs : List GroupIx} (once : gs.Nodup) (s : State) :
    gs.foldl (fun s g => s.setGroup g { s.group g with members := (s.group g).members ++ [e] }) s = s.joined gs e := by
  induction gs generalizing s with
  | nil =>
    have same : mapIx (fun _ r => r) s.groups = s.groups := by ext1 i hi; simp
    simp [State.joined, State.setGroups, same]
  | cons g gs ih =>
    obtain ⟨new, once⟩ := List.nodup_cons.mp once
    rw [List.foldl_cons, ih once]
    unfold State.joined
    rw [State.setGroup_groups]
    change s.setGroups _ = s.setGroups _
    congr 1
    ext1 i hi
    by_cases h : g.val = i
    · subst h; simp [new, State.group]
    · have h' : (⟨i, hi⟩ : GroupIx) ≠ g := fun eq => h (congrArg Fin.val eq).symm
      simp [Vector.getElem_set_ne, h, h']

/-- `s` once side `x` has entered `r.entry` with the given fields, which joins the groups it names (R11). -/
def State.entered (s : State) (x : Side) (r : EnterArgs) : State :=
  (s.setEntry r.entry (some (enteredEntry x r))).joined r.groups r.entry

theorem State.entry_entered (s : State) (x : Side) (r : EnterArgs) (e : EntryIx) :
    (s.entered x r).entry e = if e = r.entry then some (enteredEntry x r) else s.entry e :=
  s.entry_setEntry r.entry e _

theorem State.group_entered (s : State) (x : Side) (r : EnterArgs) (g : GroupIx) :
    (s.entered x r).group g =
      if g ∈ r.groups then { s.group g with members := (s.group g).members ++ [r.entry] } else s.group g :=
  State.group_joined _ _ _ _

theorem require_eq_some {α : Type} {ok : Bool} {r : Option α} {a : α} : require ok r = some a ↔ ok = true ∧ r = some a := by
  cases ok <;> simp [require]

/-- R11 item 1: the groups an ENTER names are named once each. -/
theorem parseEnter_groups_nodup {f : Frame} {r : EnterArgs} (h : parseEnter f = some r) : r.groups.Nodup := by
  have wf : r.wf = true := by
    obtain ⟨-, h⟩ := require_eq_some.mp h
    split at h
    · obtain ⟨wf, rfl⟩ : _ ∧ _ = r := by simpa only [require_eq_some, Option.some.injEq] using h
      exact wf
    · cases h
  simp only [EnterArgs.wf, Bool.and_eq_true, decide_eq_true_eq] at wf
  exact wf.2

section
variable {s : State} {r : EnterArgs}

theorem enterRefusal_inUse (h : (s.entry r.entry).isSome = true) : enterRefusal s r = some .inUse := if_pos h

theorem enterRefusal_duplicate (vacant : s.entry r.entry = none)
    (h : (s.identityMap r.identity).isSome = true ∨ (s.numberMap r.number).isSome = true ∨
      ∃ p ∈ r.home, (s.homeOf p).isSome = true) : enterRefusal s r = some .duplicate := by
  unfold enterRefusal
  rw [vacant, if_neg (by simp)]
  split
  · rfl
  · split
    · rfl
    · rename_i identity number
      have home : r.home.any (fun p => (s.homeOf p).isSome) = true := by
        simpa [identity, number, Option.any_eq_true] using h
      rw [if_pos home]

/-- With checks 2 to 5 passed, what ENTER answers turns on the room in the groups alone. -/
theorem enterRefusal_of_unheld (vacant : s.entry r.entry = none) (identity : s.identityMap r.identity = none)
    (number : s.numberMap r.number = none) (home : ∀ p ∈ r.home, s.homeOf p = none) :
    enterRefusal s r = if ∃ g ∈ r.groups, 16 ≤ (s.group g).members.length then some .noRoom else none := by
  have unheld : r.home.any (fun p => (s.homeOf p).isSome) = false := by
    cases h : r.home with
    | none => rfl
    | some p => simp [home p h]
  have room : (r.groups.any fun g => decide (Config.maxMembers ≤ (s.group g).members.length)) = true ↔
      ∃ g ∈ r.groups, 16 ≤ (s.group g).members.length := by
    simp only [List.any_eq_true, decide_eq_true_eq]
    rfl
  simp [enterRefusal, vacant, identity, number, unheld, room]

theorem enterBody_refused {x : Side} {status : Status} (h : enterRefusal s r = some status) :
    enterBody x r s = .error status := by
  unfold enterBody
  rw [h]

theorem enterBody_done {x : Side} (h : enterRefusal s r = none) (once : r.groups.Nodup) :
    enterBody x r s = .ok (((begin_ x s).onState (·.entered x r)).touch (.entry r.entry), bytes16 r.entry) := by
  unfold enterBody
  rw [h]
  simp only [State.foldl_append_member r.entry once]
  rfl

end

theorem exec_enter (s : State) : exec .enter s = issue 1#8 parseEnter enterBody s := rfl

/-- Settles O8: the checks by the equations of `enterRefusal`, the effect by the join of all the groups at once. -/
theorem enterMakesAnEntry : Obligations.EnterMakesAnEntry := by
  intro s q hq
  rw [exec_enter]
  refine ⟨issue_badField hq, fun r hp => ?_⟩
  have refused {status : Status} (h : enterRefusal s r = some status) :
      issue 1#8 parseEnter enterBody s = .next (s.refusedWith q status) := issue_refused hq hp (enterBody_refused h)
  refine ⟨fun h => refused (enterRefusal_inUse h), fun vacant h => refused (enterRefusal_duplicate vacant h),
    fun vacant identity number home => ?_⟩
  have room := enterRefusal_of_unheld vacant identity number home
  refine ⟨fun full => refused (room.trans (if_pos full)), fun fits => ?_⟩
  have passed : enterRefusal s r = none := room.trans (if_neg fun ⟨g, hg, full⟩ => absurd (fits g hg) (by omega))
  refine ⟨(s.entered q.side r).completed q .done (bytes16 r.entry) [.entry r.entry], ?_, rfl, s.entry_entered _ _,
    s.group_entered _ _⟩
  exact issue_done_of_marks hq hp (enterBody_done passed (parseEnter_groups_nodup hp)) (Work.touch_st _ _)
    (((begin_marks _ _).onState _).touch _)

/-! ## REMOVE (R15) -/

theorem bne_eq_decide_ne (e f : EntryIx) : (e != f) = decide (e ≠ f) := by
  by_cases h : e = f <;> simp [h]

/-- `s` once entry `e` is VACANT and in no member list and no remaining list (R15 items 2 to 4). -/
def State.forgotten (s : State) (e : EntryIx) : State := ((s.dropFromGroups e).dropFromRemaining e).setEntry e none

theorem State.entry_forgotten (s : State) (e f : EntryIx) : (s.forgotten e).entry f = if f = e then none else s.entry f :=
  State.entry_setEntry _ _ _ _

theorem State.group_forgotten (s : State) (e : EntryIx) (g : GroupIx) :
    (s.forgotten e).group g = { s.group g with members := (s.group g).members.filter (· ≠ e) } := by
  simp [State.forgotten, State.dropFromRemaining, State.dropFromGroups, State.group, bne_eq_decide_ne]

theorem State.call_forgotten (s : State) (e : EntryIx) (c : CallIx) : (s.forgotten e).call c = (s.call c).forget e := by
  simp [State.forgotten, State.dropFromRemaining, State.dropFromGroups, State.call]

/-- The event of a REMOVE that passes its checks (R15). -/
def removeEvent (x : Side) (e : EntryIx) (r : Entry) (s : State) : Work :=
  (((begin_ x s).unbindEntryPort r .unknown).touch (.entry e)).onState (·.forgotten e)

theorem removeEvent_st (x y : Side) (e : EntryIx) (r : Entry) (s : State) :
    (removeEvent x e r (s.serving y)).st = ((s.unboundFrom x .unknown r).forgotten e).serving y := by
  rw [removeEvent, Work.onState_st, Work.touch_st, Work.unbindEntryPort_st rfl, begin_st, State.unboundFrom_serving]
  rfl

/-- R15, R157: REMOVE marks its entry and then the port that the entry was bound to. -/
theorem removeEvent_marks (x : Side) (e : EntryIx) (r : Entry) (s : State) :
    (removeEvent x e r s).RequestMarks x (.entry e :: r.boundPort.toList.map .port) := by
  rw [← insertObj_entry_ports]
  exact (((begin_marks x s).unbindEntryPort r .unknown).touch _).onState _

theorem removeBody_of_vacant {s : State} {e : EntryIx} (h : s.entry e = none) (x : Side) :
    removeBody x e s = .error .noEntry := by
  unfold removeBody
  rw [h]

theorem removeBody_of_entry {s : State} {e : EntryIx} {r : Entry} (h : s.entry e = some r) (x : Side) :
    removeBody x e s =
      if r.handler ≠ x then .error .notHandler
      else if r.call.isSome then .error .inUse
      else .ok (removeEvent x e r s, bytes16 e) := by
  unfold removeBody
  rw [h]
  rfl

theorem exec_remove (s : State) : exec .remove s = issue 5#8 parseEntry removeBody s := rfl

/-- Settles O11: the checks by the equations of `removeBody`, the effect record by record on the state that forgets the entry. -/
theorem removeForgetsTheEntry : Obligations.RemoveForgetsTheEntry := by
  intro s q hq
  rw [exec_remove]
  refine ⟨issue_badField hq, fun e hp => ⟨fun vacant => ?_, fun r he => ?_⟩⟩
  · exact issue_refused hq hp (removeBody_of_vacant (s := s.serving q.side) vacant _)
  have body := removeBody_of_entry (s := s.serving q.side) he q.side
  refine ⟨fun other => ?_, fun own busy => ?_, fun own idle => ?_⟩
  · exact issue_refused hq hp (body.trans (if_pos other))
  · exact issue_refused hq hp (body.trans (by rw [if_neg (not_not.mpr own), if_pos busy]))
  · rw [if_neg (not_not.mpr own), if_neg (by simp [idle])] at body
    have frame := s.unboundFrom_frame q.side .unknown r
    refine ⟨((s.unboundFrom q.side .unknown r).forgotten e).completed q .done (bytes16 e)
      (.entry e :: r.boundPort.toList.map .port), ?_, ?_, fun f => ?_, fun g => ?_, s.port_unboundFrom _ _ _, fun c => ?_⟩
    · exact issue_done_of_marks hq hp body (removeEvent_st _ _ _ _ _) (removeEvent_marks _ _ _ _)
    · rw [frame]
      rfl
    · rw [State.completed_entry, State.entry_forgotten, frame]
      rfl
    · rw [State.completed_group, State.group_forgotten, frame]
      rfl
    · rw [State.completed_call, State.call_forgotten, frame]
      simp only [Call.forget, bne_eq_decide_ne]
      rfl

/-! ## BAR and UNBAR (R13, R14) -/

/-- The event of a BAR that passes its checks (R13). -/
def barEvent (x : Side) (e : EntryIx) (r : Entry) (s : State) : Work :=
  (((begin_ x s).onState fun s => s.setEntry e (some { r with status := .barred })).touch (.entry e)).unbindEntryPort r .barred

theorem barEvent_st (x y : Side) (e : EntryIx) (r : Entry) (s : State) :
    (barEvent x e r (s.serving y)).st =
      ((s.setEntry e (some { r with status := .barred })).unboundFrom x .barred r).serving y := by
  rw [barEvent, Work.unbindEntryPort_st (Work.touch_cause _ _), Work.touch_st]
  exact (s.setEntry e (some { r with status := .barred })).unboundFrom_serving y x .barred r

/-- R13, R157: BAR marks its entry and then the port that the entry was bound to. -/
theorem barEvent_marks (x : Side) (e : EntryIx) (r : Entry) (s : State) :
    (barEvent x e r s).RequestMarks x (.entry e :: r.boundPort.toList.map .port) := by
  rw [← insertObj_ports_entry]
  exact (((begin_marks x s).onState _).touch _).unbindEntryPort r .barred

theorem barBody_of_vacant {s : State} {e : EntryIx} (h : s.entry e = none) (x : Side) : barBody x e s = .error .noEntry := by
  unfold barBody
  rw [h]

theorem barBody_of_entry {s : State} {e : EntryIx} {r : Entry} (h : s.entry e = some r) (x : Side) :
    barBody x e s =
      if r.handler ≠ x then .error .notHandler
      else if r.status = .barred then .error .state
      else if r.call.isSome then .error .inUse
      else .ok (barEvent x e r s, bytes16 e) := by
  unfold barBody
  rw [h]
  rfl

theorem unbarBody_of_vacant {s : State} {e : EntryIx} (h : s.entry e = none) (x : Side) :
    unbarBody x e s = .error .noEntry := by
  unfold unbarBody
  rw [h]

theorem unbarBody_of_entry {s : State} {e : EntryIx} {r : Entry} (h : s.entry e = some r) (x : Side) :
    unbarBody x e s =
      if r.handler ≠ x then .error .notHandler
      else if r.status ≠ .barred then .error .state
      else .ok (((begin_ x s).onState fun s => s.setEntry e (some { r with status := .entered })).touch (.entry e), bytes16 e) := by
  unfold unbarBody
  rw [h]

theorem exec_bar (s : State) : exec .bar s = issue 3#8 parseEntry barBody s := rfl
theorem exec_unbar (s : State) : exec .unbar s = issue 4#8 parseEntry unbarBody s := rfl

/-- Settles O10: for each of the two, case by case along its checks. -/
theorem barBarsAndUnbarReturns : Obligations.BarBarsAndUnbarReturns := by
  constructor
  · intro s q hq
    rw [exec_bar]
    cases hp : parseEntry q.frame with
    | none => exact issue_badField hq hp
    | some e =>
      dsimp only
      cases he : s.entry e with
      | none => exact issue_refused hq hp (barBody_of_vacant (s := s.serving q.side) he _)
      | some r =>
        have body := barBody_of_entry (s := s.serving q.side) he q.side
        dsimp only
        split_ifs at body ⊢ with other barred busy
        · exact issue_refused hq hp body
        · exact issue_refused hq hp body
        · exact issue_refused hq hp body
        · rw [issue_done_of_marks hq hp body (barEvent_st _ _ _ _ _) (barEvent_marks _ _ _ _)]
          cases hport : r.boundPort <;> simp only [State.unboundFrom, hport] <;> rfl
  · intro s q hq
    rw [exec_unbar]
    cases hp : parseEntry q.frame with
    | none => exact issue_badField hq hp
    | some e =>
      dsimp only
      cases he : s.entry e with
      | none => exact issue_refused hq hp (unbarBody_of_vacant (s := s.serving q.side) he _)
      | some r =>
        have body := unbarBody_of_entry (s := s.serving q.side) he q.side
        dsimp only
        split_ifs at body ⊢ with other unbarred
        · exact issue_refused hq hp body
        · exact issue_refused hq hp body
        · exact issue_done_of_marks hq hp body (Work.touch_st _ _) (((begin_marks _ _).onState _).touch _)

end Sys2Proof.Machine

/-! SUPPORT. The requests that name a call by number and generation (06): how the name is resolved, and the statement about CONFIRM. -/

namespace Sys2Proof.Machine

/-! ## The call a request names (R95) -/

section
variable {s : State} {r : CallRef}

theorem State.namedCall_of_free (h : (s.call r.call).body = none) : s.namedCall r = none := by
  unfold State.namedCall
  rw [h, ite_self]

theorem State.namedCall_of_other_generation (h : (s.call r.call).generation ≠ r.generation) : s.namedCall r = none := if_neg h

theorem State.namedCall_of_generation (h : (s.call r.call).generation = r.generation) :
    s.namedCall r = (s.call r.call).body := if_pos h

end

/-! ## CONFIRM (R103) -/

/-- The event of a CONFIRM that passes its checks (R103). -/
def confirmEvent (x : Side) (c : CallIx) (s : State) : Work :=
  ((begin_ x s).onCall c fun b => { b with phase := .connected }).touch (.call c)

theorem confirmEvent_st (x : Side) {c : CallIx} {b : CallBody} {s : State} (h : (s.call c).body = some b) :
    (confirmEvent x c s).st = s.setCall c { s.call c with body := some { b with phase := .connected } } := by
  rw [confirmEvent, Work.touch_st, Work.onCall_st, begin_st, h, Option.map_some]

/-- R103, R157: CONFIRM marks its call alone. -/
theorem confirmEvent_marks (x : Side) (c : CallIx) (s : State) : (confirmEvent x c s).RequestMarks x [.call c] :=
  ((begin_marks x s).onState _).touch _

section
variable {s : State} {r : CallRef}

theorem confirmBody_of_unnamed (h : s.namedCall r = none) (x : Side) : confirmBody x r s = .error .noCall := by
  unfold confirmBody
  rw [h]

theorem confirmBody_of_named {b : CallBody} (h : s.namedCall r = some b) (x : Side) :
    confirmBody x r s =
      if b.handler ≠ x then .error .notHandler
      else if b.phase ≠ .provisional then .error .state
      else .ok (confirmEvent x r.call s, [b8 r.call, r.generation, b8 (modeCode b.mode)]) := by
  unfold confirmBody
  rw [h]
  rfl

end

theorem exec_confirm (s : State) : exec .confirm s = issue 18#8 parseConfirm confirmBody s := rfl

/-- Settles O17: case by case along CONFIRM's checks, once it is known which call its number and generation name. -/
theorem confirmConnects : Obligations.ConfirmConnects := by
  intro s q hq
  rw [exec_confirm]
  cases hp : parseConfirm q.frame with
  | none => exact issue_badField hq hp
  | some r =>
    dsimp only
    cases hb : (s.call r.call).body with
    | none =>
      have unnamed : (s.serving q.side).namedCall r = none := State.namedCall_of_free hb
      exact issue_refused hq hp (confirmBody_of_unnamed unnamed _)
    | some b =>
      dsimp only
      by_cases stale : (s.call r.call).generation ≠ r.generation
      · have unnamed : (s.serving q.side).namedCall r = none := State.namedCall_of_other_generation stale
        rw [if_pos stale]
        exact issue_refused hq hp (confirmBody_of_unnamed unnamed _)
      · have named : (s.serving q.side).namedCall r = some b := (State.namedCall_of_generation (not_not.mp stale)).trans hb
        have body := confirmBody_of_named named q.side
        rw [if_neg stale]
        split_ifs at body ⊢ with other notProvisional
        · exact issue_refused hq hp body
        · exact issue_refused hq hp body
        · exact issue_done_of_marks hq hp body (confirmEvent_st _ hb) (confirmEvent_marks _ _ _)

end Sys2Proof.Machine

/-! SUPPORT. The scrambler (08): the order of a block's segments is a permutation, what a block becomes sample by sample, and the
statement that descrambling undoes scrambling. -/

namespace Sys2Proof.Machine

/-! ## The order of the segments (R132) -/

theorem exchange_eq_swap (v : Vector (Fin 8) 8) (i : Fin 8) (r : Nat) :
    exchange v i r = v.swap i (r % (i + 1)) i.isLt (by have := Nat.mod_lt r (Nat.add_one_pos i); omega) := rfl

theorem exchange_perm (v : Vector (Fin 8) 8) (i : Fin 8) (r : Nat) : (exchange v i r).Perm v := by
  rw [exchange_eq_swap]
  exact Vector.swap_perm _ _

theorem foldl_exchange_perm (steps : List (Fin 8 × Nat)) (v : Vector (Fin 8) 8) :
    (steps.foldl (fun v x => exchange v x.1 x.2) v).Perm v := by
  induction steps generalizing v with
  | nil => exact .rfl
  | cons x xs ih => exact (ih _).trans (exchange_perm v x.1 x.2)

/-- R132: whatever the draws, the segment order is an arrangement of the straight one. -/
theorem segmentOrder_perm (ds : List Nat) : (segmentOrder ds).Perm straightOrder := foldl_exchange_perm _ _

/-- Every segment number stands at exactly one position of the order. -/
def BlockPerm.Permutes (p : BlockPerm) : Prop := Function.Bijective fun i : Fin 8 => p.order[i]

/-- R132: the order of a block's segments is a permutation. -/
theorem blockPerm_permutes (v : Word24) (b : Word16) : (blockPerm v b).Permutes := by
  have once : (blockPerm v b).order.toList.Nodup := (segmentOrder_perm _).toList.nodup_iff.mpr (by decide)
  refine Finite.injective_iff_bijective.mp fun i j same => Fin.ext ?_
  exact (once.getElem_inj_iff (hi := by simp) (hj := by simp)).mp (by simpa using same)

/-- The position of segment `p.order[i]` that descrambling looks up is `i`. -/
theorem BlockPerm.Permutes.firstIx_order {p : BlockPerm} (h : p.Permutes) (i : Fin 8) :
    firstIx (fun _ x => x == p.order[i]) p.order = some i := by
  have found := (firstIx_isSome (fun _ x => x == p.order[i]) p.order).mpr ⟨i, beq_self_eq_true _⟩
  obtain ⟨j, hj⟩ := Option.isSome_iff_exists.mp found
  have same : p.order[j] = p.order[i] := eq_of_beq (firstIx_meets (fun _ x => x == p.order[i]) p.order j hj)
  rw [hj, h.injective same]

/-! ## Samples (R133) -/

theorem turnSign_toNat (v : Byte) :
    (turnSign v).toNat = if 128 ≤ v.toNat then v.toNat - 128 else v.toNat + 128 := by
  have := v.isLt
  unfold turnSign b8
  split <;> rw [BitVec.toNat_ofNat] <;> omega

theorem turnSign_turnSign (v : Byte) : turnSign (turnSign v) = v := by
  apply BitVec.eq_of_toNat_eq
  have := v.isLt
  rw [turnSign_toNat, turnSign_toNat]
  split_ifs <;> omega

/-- R132 step 4: what a sample of segment position `i` becomes. -/
def BlockPerm.turnIf (p : BlockPerm) (i : Fin 8) (sample : Byte) : Byte :=
  if p.mask.getLsbD i then turnSign sample else sample

theorem BlockPerm.turnIf_turnIf (p : BlockPerm) (i : Fin 8) (v : Byte) : p.turnIf i (p.turnIf i v) = v := by
  unfold turnIf
  split
  · exact turnSign_turnSign v
  · rfl

theorem invertIf_eq_map (p : BlockPerm) (i : Fin 8) (samples : List Byte) :
    invertIf p i samples = samples.map (p.turnIf i) := by
  unfold invertIf BlockPerm.turnIf
  split <;> simp

/-! ## Blocks by segments -/

theorem segment_length {block : List Byte} (full : block.length = 64) (i : Fin 8) : (segment block i).length = 8 := by
  simp only [segment, List.length_take, List.length_drop, full]
  omega

theorem segment_getElem? (block : List Byte) (i k : Fin 8) : (segment block i)[k.val]? = block[8 * i.val + k.val]? := by
  rw [segment, List.getElem?_take_of_lt k.isLt, List.getElem?_drop]

/-- In a join of pieces of one length, sample `k` of piece `i` stands at place `m * i + k`. -/
theorem flatMap_getElem? {α β : Type} {f : α → List β} {m : Nat} (sized : ∀ a, (f a).length = m) (l : List α)
    (i : Nat) {k : Nat} (hk : k < m) : (l.flatMap f)[m * i + k]? = l[i]?.bind fun a => (f a)[k]? := by
  induction l generalizing i with
  | nil => rfl
  | cons a l ih =>
    rw [List.flatMap_cons]
    cases i with
    | zero => simp [List.getElem?_append_left (by rw [sized]; exact hk : k < (f a).length)]
    | succ i =>
      have past : m * (i + 1) + k = (f a).length + (m * i + k) := by rw [sized, Nat.mul_succ]; omega
      rw [past, List.getElem?_append_right (Nat.le_add_right _ _), Nat.add_sub_cancel_left, ih, List.getElem?_cons_succ]

section
variable {f : Fin 8 → List Byte} (sized : ∀ i, (f i).length = 8)
include sized

theorem joinSegments_length : ((List.finRange 8).flatMap f).length = 64 := by
  simp [List.length_flatMap, sized]

theorem joinSegments_getElem? (i k : Fin 8) : ((List.finRange 8).flatMap f)[8 * i.val + k.val]? = (f i)[k.val]? := by
  rw [flatMap_getElem? sized _ _ k.isLt]
  simp

end

/-- Two blocks of 64 samples that agree on sample `k` of segment `i`, for every `i` and `k`, are the same. -/
theorem block_ext {x y : List Byte} (hx : x.length = 64) (hy : y.length = 64)
    (agree : ∀ i k : Fin 8, x[8 * i.val + k.val]? = y[8 * i.val + k.val]?) : x = y := by
  refine List.ext_getElem?' fun n hn => ?_
  have := agree ⟨n / 8, by omega⟩ ⟨n % 8, by omega⟩
  rwa [Nat.div_add_mod] at this

/-! ## Scrambling and descrambling (R133, R134) -/

section
variable {p : BlockPerm} {block : List Byte} (full : block.length = 64)
include full

theorem invertIf_segment_length (i j : Fin 8) : (invertIf p i (segment block j)).length = 8 := by
  rw [invertIf_eq_map, List.length_map, segment_length full]

theorem scrambleBlock_length : (scrambleBlock p block).length = 64 :=
  joinSegments_length fun _ => invertIf_segment_length full _ _

/-- R133: sample `k` of output segment `i`. -/
theorem scrambleBlock_getElem? (i k : Fin 8) :
    (scrambleBlock p block)[8 * i.val + k.val]? = (block[8 * (p.order[i]).val + k.val]?).map (p.turnIf i) := by
  rw [scrambleBlock, joinSegments_getElem? fun _ => invertIf_segment_length full _ _, invertIf_eq_map, List.getElem?_map,
    segment_getElem?]

end

/-- R134: the output segment that descrambling places at `k`. -/
def descrambledSegment (p : BlockPerm) (block : List Byte) (k : Fin 8) : List Byte :=
  match firstIx (fun _ x => x == k) p.order with
  | some i => invertIf p i (segment block i)
  | none => []

theorem descrambleBlock_eq_flatMap (p : BlockPerm) (block : List Byte) :
    descrambleBlock p block = (List.finRange 8).flatMap (descrambledSegment p block) := rfl

section
variable {p : BlockPerm} {block : List Byte} (h : p.Permutes)
include h

/-- R134: input segment `i` is placed as output segment P[i]. -/
theorem descrambledSegment_order (i : Fin 8) :
    descrambledSegment p block p.order[i] = invertIf p i (segment block i) := by
  rw [descrambledSegment, h.firstIx_order i]

variable (full : block.length = 64)
include full

theorem descrambledSegment_length (k : Fin 8) : (descrambledSegment p block k).length = 8 := by
  obtain ⟨i, rfl⟩ := h.surjective k
  exact (congrArg List.length (descrambledSegment_order h i)).trans (invertIf_segment_length full i i)

theorem descrambleBlock_length : (descrambleBlock p block).length = 64 :=
  joinSegments_length (descrambledSegment_length h full)

/-- R134: sample `k` of output segment P[i]. -/
theorem descrambleBlock_getElem? (i k : Fin 8) :
    (descrambleBlock p block)[8 * (p.order[i]).val + k.val]? = (block[8 * i.val + k.val]?).map (p.turnIf i) := by
  rw [descrambleBlock_eq_flatMap, joinSegments_getElem? (descrambledSegment_length h full), descrambledSegment_order h,
    invertIf_eq_map, List.getElem?_map, segment_getElem?]

/-- R134: each sample goes from segment P[i] to segment i and back, and is turned over both times or not at all. -/
theorem descrambleBlock_scrambleBlock : descrambleBlock p (scrambleBlock p block) = block := by
  have scrambled : (scrambleBlock p block).length = 64 := scrambleBlock_length full
  refine block_ext (descrambleBlock_length h scrambled) full fun j k => ?_
  obtain ⟨i, rfl⟩ := h.surjective j
  calc (descrambleBlock p (scrambleBlock p block))[8 * (p.order[i]).val + k.val]?
    _ = ((scrambleBlock p block)[8 * i.val + k.val]?).map (p.turnIf i) := descrambleBlock_getElem? h scrambled i k
    _ = ((block[8 * (p.order[i]).val + k.val]?).map (p.turnIf i)).map (p.turnIf i) := by rw [scrambleBlock_getElem? full]
    _ = block[8 * (p.order[i]).val + k.val]? := by simp [Function.comp_def, BlockPerm.turnIf_turnIf]

end

/-- Settles O50: sample by sample, from the order of the segments being a permutation. -/
theorem descramblingUndoesScrambling : Obligations.DescramblingUndoesScrambling := by
  intro v b block full
  have permutes := blockPerm_permutes v b
  exact ⟨scrambleBlock_getElem? full, fun sample => ⟨turnSign_toNat sample, turnSign_turnSign sample⟩,
    descrambleBlock_getElem? permutes full, descrambleBlock_scrambleBlock permutes full⟩

end Sys2Proof.Machine
